-- ==== Sys2Proof/Word.lean ====
section
/-! DEFINITION. The two sizes of number the spec names (file 00, R9): a byte is an unsigned integer
in 0..255, a word an unsigned integer in 0..65535. -/

namespace Sys2Proof

/-- A byte (R9): register slots, the flag register, memory and port contents, opcodes, operands. -/
abbrev Byte := BitVec 8

/-- A word (R9): the program counter, the stack pointer, the pair views. -/
abbrev Word := BitVec 16

end Sys2Proof
end

