-- ==== Sys2Proof/Machine/Flags.lean ====
section
/-! DEFINITION. The flag engine: the pure functions of file 41 (R120 to R129). Sums and differences are
formed on unbounded integers and narrowed where the rule says so (R9). These are the core's own
formulas, not an Intel 8080's (R136). -/

namespace Sys2Proof.Machine

/-! ## The flag byte, `S Z 0 AC 0 P 1 CY` (R26) -/

def flagS (f : Byte) : Bool := f.getLsbD 7
def flagZ (f : Byte) : Bool := f.getLsbD 6
def flagAC (f : Byte) : Bool := f.getLsbD 4
def flagP (f : Byte) : Bool := f.getLsbD 2
def flagCY (f : Byte) : Bool := f.getLsbD 0

/-- The flag byte of five flags, the reserved bits at their constants (R27, R129; that
an update never changes them is the spec's D16: UNVERIFIED, unsafe, log 17). -/
def pack (s z ac p cy : Bool) : Byte :=
  BitVec.ofBool s ++ BitVec.ofBool z ++ 0#1 ++ BitVec.ofBool ac ++ 0#1 ++ BitVec.ofBool p ++ 1#1 ++
    BitVec.ofBool cy

/-! ## The seven functions -/

/-- Sign: bit 7 of the result (R121). -/
def sign (v : Byte) : Bool := v.getLsbD 7

/-- Zero: the 8-bit result equals 0 (R122). -/
def zero (v : Byte) : Bool := v == 0

/-- The number of 1 bits of a byte (R9). -/
def popcount (v : Byte) : Nat :=
  (v.getLsbD 0).toNat + (v.getLsbD 1).toNat + (v.getLsbD 2).toNat + (v.getLsbD 3).toNat +
    (v.getLsbD 4).toNat + (v.getLsbD 5).toNat + (v.getLsbD 6).toNat + (v.getLsbD 7).toNat

/-- Parity: the number of 1 bits of the result is even (R123). -/
def parity (v : Byte) : Bool := popcount v % 2 == 0

/-- The low nibble of a number, `v & 0x0F` (R9). -/
def lowNibble (v : Nat) : Nat := v % 16

/-- Carry of an addition: `a + b + c > 0xFF` (R124). -/
def cyAdd (a b : Byte) (c : Bool) : Bool := decide (a.toNat + b.toNat + c.toNat > 0xFF)

/-- Carry (borrow) of a subtraction: `a < b + c`, the sum not reduced (R125). The width of `b + c` is
the spec's decision D5: UNVERIFIED, unsafe (log 7). -/
def cySub (a b : Byte) (c : Bool) : Bool := decide (a.toNat < b.toNat + c.toNat)

/-- Auxiliary carry of an addition: the carry out of bit 3 (R126). -/
def acAdd (a b : Byte) (c : Bool) : Bool :=
  decide (lowNibble a.toNat + lowNibble b.toNat + c.toNat > 0x0F)

/-- Auxiliary carry of a subtraction: `a[3:0] < ((b + c) & 0x0F)`, the mask after the sum (R127; the
spec's D5, log 7). -/
def acSub (a b : Byte) (c : Bool) : Bool :=
  decide (lowNibble a.toNat < lowNibble (b.toNat + c.toNat))

/-- Auxiliary carry of an increment: the low nibble wraps from 0xF (R132). -/
def acInc (v : Byte) : Bool := lowNibble v.toNat == 0xF

/-- Auxiliary carry of a decrement: the low nibble wraps from 0x0 (R132). -/
def acDec (v : Byte) : Bool := lowNibble v.toNat == 0x0

/-! ## Results modulo 256 (R130, R133) -/

/-- `(a + b + c) mod 256`. -/
def addResult (a b : Byte) (c : Bool) : Byte := BitVec.ofNat 8 (a.toNat + b.toNat + c.toNat)

/-- `(a - b - c) mod 256`, the mathematical modulus. -/
def subResult (a b : Byte) (c : Bool) : Byte :=
  BitVec.ofInt 8 ((a.toNat : Int) - (b.toNat : Int) - (c.toNat : Int))

/-- The flag byte of a result: S, Z and P describe the 8-bit result (R130; for a result that is not
the accumulator this is the spec's decision D3: UNVERIFIED, unsafe, log 5). -/
def flagsOf (r : Byte) (ac cy : Bool) : Byte := pack (sign r) (zero r) ac (parity r) cy

end Sys2Proof.Machine
end

