-- ==== Sys2Proof/Config.lean ====
section
/-! DEFINITION. The implementation parameter of the core (file 00, R6, R7). The core has one,
MEM_SIZE. There is no free value here: once MEM_SIZE and IMAGE are fixed nothing is left open
(file 93, last sentence of part 1; R109). -/

namespace Sys2Proof

/-- The reference memory capacity, "reference size 64 bytes" (R6). -/
def Config.referenceMemSize : Nat := 64

/-- The largest legal capacity: MEM_SIZE is any integer in 1..65536 (R6, the spec's D11). -/
def Config.largestMemSize : Nat := 65536

/-- The highest memory address of the reference core, MEM_SIZE - 1 = 63 (R50). The machine after
reset has this capacity: DESIGN CHOICE, unsafe (log 1), because R6 makes MEM_SIZE an argument. -/
def Config.referenceMemTop : Word := BitVec.ofNat 16 (Config.referenceMemSize - 1)

end Sys2Proof
end

