-- ==== Sys2Proof/Syntax.lean ====
section
/-! DEFINITION. The syntax of the core: the eight register slots (file 10, R20), the operand forms
(file 30, R75), the eight accumulator operations (R74), and the instructions, ONE constructor for
each of the 162 rows of opcode_table.json (R2, R77). A register operand is part of the constructor,
as each register form is a row of its own; an operand byte (immediate or port number) is an
argument, and all its 256 values are legal (R75). -/

namespace Sys2Proof

/-- The eight 8-bit slots in index order 0..7: B, C, D, E, H, L, M, A (R20). M is an ordinary slot (R23). -/
inductive Reg where
  | b | c | d | e | h | l | m | a
  deriving DecidableEq, Repr

/-- The two forms of the second operand of an accumulator operation: a register slot (format F1-S)
or the instruction's immediate byte (format F2-I) (R72, R75). -/
inductive Operand where
  | reg (r : Reg)
  | imm (n : Byte)
  deriving DecidableEq, Repr

/-- The operation selector `ooo` of formats F1-S and F2-I, in its numeric order 0..7 (R74). -/
inductive AluOp where
  | add | adc | sub | sbb | ana | xra | ora | cmp
  deriving DecidableEq, Repr

/-- The instructions: one constructor for each row of opcode_table.json. -/
inductive Instr where
  -- NOP (R140)
  | nop
  -- HLT (R141)
  | hlt
  -- MOV d,s (R150): destination slot first. MOV M,M does not exist: its byte is HLT (R76)
  | movBB | movBC | movBD | movBE | movBH | movBL | movBM | movBA
  | movCB | movCC | movCD | movCE | movCH | movCL | movCM | movCA
  | movDB | movDC | movDD | movDE | movDH | movDL | movDM | movDA
  | movEB | movEC | movED | movEE | movEH | movEL | movEM | movEA
  | movHB | movHC | movHD | movHE | movHH | movHL | movHM | movHA
  | movLB | movLC | movLD | movLE | movLH | movLL | movLM | movLA
  | movMB | movMC | movMD | movME | movMH | movML | movMA | movAB
  | movAC | movAD | movAE | movAH | movAL | movAM | movAA
  -- MVI d,n (R151)
  | mviB (n : Byte)
  | mviC (n : Byte)
  | mviD (n : Byte)
  | mviE (n : Byte)
  | mviH (n : Byte)
  | mviL (n : Byte)
  | mviM (n : Byte)
  | mviA (n : Byte)
  -- ADD s (R160)
  | addB | addC | addD | addE | addH | addL | addM | addA
  -- ADC s (R162)
  | adcB | adcC | adcD | adcE | adcH | adcL | adcM | adcA
  -- SUB s (R164)
  | subB | subC | subD | subE | subH | subL | subM | subA
  -- SBB s (R166)
  | sbbB | sbbC | sbbD | sbbE | sbbH | sbbL | sbbM | sbbA
  -- INR d (R170)
  | inrB | inrC | inrD | inrE | inrH | inrL | inrM | inrA
  -- DCR d (R171)
  | dcrB | dcrC | dcrD | dcrE | dcrH | dcrL | dcrM | dcrA
  -- ANA s (R180)
  | anaB | anaC | anaD | anaE | anaH | anaL | anaM | anaA
  -- XRA s (R184)
  | xraB | xraC | xraD | xraE | xraH | xraL | xraM | xraA
  -- ORA s (R182)
  | oraB | oraC | oraD | oraE | oraH | oraL | oraM | oraA
  -- CMP s (R190)
  | cmpB | cmpC | cmpD | cmpE | cmpH | cmpL | cmpM | cmpA
  -- ADI n (R161)
  | adi (n : Byte)
  -- ACI n (R163)
  | aci (n : Byte)
  -- SUI n (R165)
  | sui (n : Byte)
  -- SBI n (R167)
  | sbi (n : Byte)
  -- ANI n (R181)
  | ani (n : Byte)
  -- XRI n (R185)
  | xri (n : Byte)
  -- ORI n (R183)
  | ori (n : Byte)
  -- CPI n (R191)
  | cpi (n : Byte)
  -- OUT p (R200); the operand is the port number
  | out (p : Byte)
  deriving DecidableEq, Repr

/-- One entry of the 256-entry opcode table (R70): the width-0 sentinel, an instruction of width 1,
or an instruction of width 2 awaiting its operand byte. -/
inductive Entry where
  | invalid
  | one (i : Instr)
  | two (build : Byte → Instr)

/-- The displayable part of an instruction descriptor (R70): the mnemonic text and the length in
bytes, 0 for an invalid opcode. The third part, the handler, is `exec` of the entry's instruction. -/
structure Descriptor where
  mnemonic : String
  width : Nat
  deriving DecidableEq, Repr

/-- Why a string of bytes is not the start of an instruction. `noOpcode`: there is no byte;
`invalidOpcode`: the first byte has width 0 (R81); `operandMissing`: the first byte has width 2 and
no byte follows (R105). -/
inductive DecodeError where
  | noOpcode
  | invalidOpcode (opcode : Byte)
  | operandMissing (opcode : Byte)
  deriving DecidableEq, Repr

end Sys2Proof
end

