-- ==== Sys2Proof/WellFormed.lean ====
section
/-! DEFINITION. What is well formed: an instruction, and a string of bytes that is to be exactly one
instruction. The byte lists are copied from R80 and R82, not computed from the decoder, so that the
decoder can be held against them. UNVERIFIED (log 4), as is every byte value of the opcode map. -/

namespace Sys2Proof

/-- Every value of `Instr` is well formed: a register field has only legal values (R73), the one pair
without an encoding, M to M, has no constructor (R76), and all 256 values of an operand byte are
legal (R75). There is no check that an instruction could fail. -/
def Instr.wellFormed (_ : Instr) : Bool := true

/-- The 94 invalid opcode bytes, as R82 lists them. -/
def invalidOpcodes : List Byte :=
  [0x01, 0x02, 0x03, 0x07, 0x08, 0x09, 0x0A, 0x0B, 0x0F] ++
  [0x10, 0x11, 0x12, 0x13, 0x17, 0x18, 0x19, 0x1A, 0x1B, 0x1F] ++
  [0x20, 0x21, 0x22, 0x23, 0x27, 0x28, 0x29, 0x2A, 0x2B, 0x2F] ++
  [0x30, 0x31, 0x32, 0x33, 0x37, 0x38, 0x39, 0x3A, 0x3B, 0x3F] ++
  [0xC0, 0xC1, 0xC2, 0xC3, 0xC4, 0xC5, 0xC7, 0xC8, 0xC9, 0xCA, 0xCB, 0xCC, 0xCD, 0xCF] ++
  [0xD0, 0xD1, 0xD2, 0xD4, 0xD5, 0xD7, 0xD8, 0xD9, 0xDA, 0xDB, 0xDC, 0xDD, 0xDF] ++
  [0xE0, 0xE1, 0xE2, 0xE3, 0xE4, 0xE5, 0xE7, 0xE8, 0xE9, 0xEA, 0xEB, 0xEC, 0xED, 0xEF] ++
  [0xF0, 0xF1, 0xF2, 0xF3, 0xF4, 0xF5, 0xF7, 0xF8, 0xF9, 0xFA, 0xFB, 0xFC, 0xFD, 0xFF]

/-- The 17 opcode bytes of width 2, as R80 lists them. -/
def twoByteOpcodes : List Byte :=
  [0x06, 0x0E, 0x16, 0x1E, 0x26, 0x2E, 0x36, 0x3E] ++
  [0xC6, 0xCE, 0xD3, 0xD6, 0xDE, 0xE6, 0xEE, 0xF6, 0xFE]

/-- Check: there is an opcode byte (R70). -/
def hasOpcode (bs : List Byte) : Bool := !bs.isEmpty

/-- Check: the opcode byte is not one of the invalid ones (R81, R82). -/
def opcodeValid (bs : List Byte) : Bool := bs.head?.all (fun op => !invalidOpcodes.contains op)

/-- Check: the number of bytes is the one R80 gives the opcode. -/
def lengthRight (bs : List Byte) : Bool :=
  bs.head?.all (fun op => bs.length == if twoByteOpcodes.contains op then 2 else 1)

/-- A string of bytes that is exactly one instruction. -/
def wellFormedBytes (bs : List Byte) : Bool := hasOpcode bs && opcodeValid bs && lengthRight bs

end Sys2Proof
end

