-- ==== Sys2Proof/Decode.lean ====
section
/-! DEFINITION. Decoding and encoding (file 30). Decoding is the algorithm of R79 on the fields of
R72, total on any bytes and refusing by name; the encoder, after it, is written from the byte map
of R77 and R78. UNVERIFIED (log 4): all byte values but the six the source shows are the spec's
decision D1. -/

namespace Sys2Proof

/-! ## Register and operation fields -/

/-- The index of a slot (R20). -/
def Reg.index : Reg → Nat
  | .b => 0 | .c => 1 | .d => 2 | .e => 3 | .h => 4 | .l => 5 | .m => 6 | .a => 7

/-- The slot a 3-bit register field names (R73). -/
def Reg.ofField (bits : BitVec 3) : Reg :=
  match bits.toNat with
  | 0 => .b | 1 => .c | 2 => .d | 3 => .e | 4 => .h | 5 => .l | 6 => .m | _ => .a

/-- The single-character debug name of a slot (R21). -/
def Reg.name : Reg → Char
  | .b => 'B' | .c => 'C' | .d => 'D' | .e => 'E' | .h => 'H' | .l => 'L' | .m => 'M' | .a => 'A'

/-- The value of the selector `ooo` for an operation (R74). -/
def AluOp.index : AluOp → Nat
  | .add => 0 | .adc => 1 | .sub => 2 | .sbb => 3 | .ana => 4 | .xra => 5 | .ora => 6 | .cmp => 7

/-- The operation a 3-bit selector `ooo` names (R74). -/
def AluOp.ofField (bits : BitVec 3) : AluOp :=
  match bits.toNat with
  | 0 => .add | 1 => .adc | 2 => .sub | 3 => .sbb | 4 => .ana | 5 => .xra | 6 => .ora | _ => .cmp

/-- The mnemonic of an operation's register form (R74). -/
def AluOp.regMnemonic : AluOp → String
  | .add => "ADD" | .adc => "ADC" | .sub => "SUB" | .sbb => "SBB"
  | .ana => "ANA" | .xra => "XRA" | .ora => "ORA" | .cmp => "CMP"

/-- The mnemonic of an operation's immediate form (R74). -/
def AluOp.immMnemonic : AluOp → String
  | .add => "ADI" | .adc => "ACI" | .sub => "SUI" | .sbb => "SBI"
  | .ana => "ANI" | .xra => "XRI" | .ora => "ORI" | .cmp => "CPI"

/-! ## The rows of a family, by their fields -/

/-- MOV d,s for the 63 pairs that exist; M to M has no encoding (R76, R150). -/
def Instr.mov : Reg → Reg → Option Instr
  | .b, .b => some .movBB | .b, .c => some .movBC | .b, .d => some .movBD | .b, .e => some .movBE
  | .b, .h => some .movBH | .b, .l => some .movBL | .b, .m => some .movBM | .b, .a => some .movBA
  | .c, .b => some .movCB | .c, .c => some .movCC | .c, .d => some .movCD | .c, .e => some .movCE
  | .c, .h => some .movCH | .c, .l => some .movCL | .c, .m => some .movCM | .c, .a => some .movCA
  | .d, .b => some .movDB | .d, .c => some .movDC | .d, .d => some .movDD | .d, .e => some .movDE
  | .d, .h => some .movDH | .d, .l => some .movDL | .d, .m => some .movDM | .d, .a => some .movDA
  | .e, .b => some .movEB | .e, .c => some .movEC | .e, .d => some .movED | .e, .e => some .movEE
  | .e, .h => some .movEH | .e, .l => some .movEL | .e, .m => some .movEM | .e, .a => some .movEA
  | .h, .b => some .movHB | .h, .c => some .movHC | .h, .d => some .movHD | .h, .e => some .movHE
  | .h, .h => some .movHH | .h, .l => some .movHL | .h, .m => some .movHM | .h, .a => some .movHA
  | .l, .b => some .movLB | .l, .c => some .movLC | .l, .d => some .movLD | .l, .e => some .movLE
  | .l, .h => some .movLH | .l, .l => some .movLL | .l, .m => some .movLM | .l, .a => some .movLA
  | .m, .b => some .movMB | .m, .c => some .movMC | .m, .d => some .movMD | .m, .e => some .movME
  | .m, .h => some .movMH | .m, .l => some .movML | .m, .m => none | .m, .a => some .movMA
  | .a, .b => some .movAB | .a, .c => some .movAC | .a, .d => some .movAD | .a, .e => some .movAE
  | .a, .h => some .movAH | .a, .l => some .movAL | .a, .m => some .movAM | .a, .a => some .movAA

/-- MVI d,n (R151). -/
def Instr.mvi (dst : Reg) (n : Byte) : Instr :=
  match dst with
  | .b => .mviB n | .c => .mviC n | .d => .mviD n | .e => .mviE n
  | .h => .mviH n | .l => .mviL n | .m => .mviM n | .a => .mviA n

/-- INR d (R170). -/
def Instr.inr : Reg → Instr
  | .b => .inrB | .c => .inrC | .d => .inrD | .e => .inrE | .h => .inrH | .l => .inrL | .m => .inrM | .a => .inrA

/-- DCR d (R171). -/
def Instr.dcr : Reg → Instr
  | .b => .dcrB | .c => .dcrC | .d => .dcrD | .e => .dcrE | .h => .dcrH | .l => .dcrL | .m => .dcrM | .a => .dcrA

/-- The eight register forms and the immediate form of each accumulator operation (R74): ADD/ADI,
ADC/ACI, SUB/SUI, SBB/SBI, ANA/ANI, XRA/XRI, ORA/ORI, CMP/CPI. -/
def Instr.alu : AluOp → Operand → Instr
  | .add, .reg .b => .addB | .add, .reg .c => .addC | .add, .reg .d => .addD | .add, .reg .e => .addE
  | .add, .reg .h => .addH | .add, .reg .l => .addL | .add, .reg .m => .addM | .add, .reg .a => .addA
  | .add, .imm n => .adi n
  | .adc, .reg .b => .adcB | .adc, .reg .c => .adcC | .adc, .reg .d => .adcD | .adc, .reg .e => .adcE
  | .adc, .reg .h => .adcH | .adc, .reg .l => .adcL | .adc, .reg .m => .adcM | .adc, .reg .a => .adcA
  | .adc, .imm n => .aci n
  | .sub, .reg .b => .subB | .sub, .reg .c => .subC | .sub, .reg .d => .subD | .sub, .reg .e => .subE
  | .sub, .reg .h => .subH | .sub, .reg .l => .subL | .sub, .reg .m => .subM | .sub, .reg .a => .subA
  | .sub, .imm n => .sui n
  | .sbb, .reg .b => .sbbB | .sbb, .reg .c => .sbbC | .sbb, .reg .d => .sbbD | .sbb, .reg .e => .sbbE
  | .sbb, .reg .h => .sbbH | .sbb, .reg .l => .sbbL | .sbb, .reg .m => .sbbM | .sbb, .reg .a => .sbbA
  | .sbb, .imm n => .sbi n
  | .ana, .reg .b => .anaB | .ana, .reg .c => .anaC | .ana, .reg .d => .anaD | .ana, .reg .e => .anaE
  | .ana, .reg .h => .anaH | .ana, .reg .l => .anaL | .ana, .reg .m => .anaM | .ana, .reg .a => .anaA
  | .ana, .imm n => .ani n
  | .xra, .reg .b => .xraB | .xra, .reg .c => .xraC | .xra, .reg .d => .xraD | .xra, .reg .e => .xraE
  | .xra, .reg .h => .xraH | .xra, .reg .l => .xraL | .xra, .reg .m => .xraM | .xra, .reg .a => .xraA
  | .xra, .imm n => .xri n
  | .ora, .reg .b => .oraB | .ora, .reg .c => .oraC | .ora, .reg .d => .oraD | .ora, .reg .e => .oraE
  | .ora, .reg .h => .oraH | .ora, .reg .l => .oraL | .ora, .reg .m => .oraM | .ora, .reg .a => .oraA
  | .ora, .imm n => .ori n
  | .cmp, .reg .b => .cmpB | .cmp, .reg .c => .cmpC | .cmp, .reg .d => .cmpD | .cmp, .reg .e => .cmpE
  | .cmp, .reg .h => .cmpH | .cmp, .reg .l => .cmpL | .cmp, .reg .m => .cmpM | .cmp, .reg .a => .cmpA
  | .cmp, .imm n => .cpi n

/-! ## The opcode table -/

/-- Bits 7 and 6 of an opcode, its quadrant (R72). -/
def quadrantField (op : Byte) : BitVec 2 := op.extractLsb' 6 2

/-- Bits 5 to 3 of an opcode, `ddd` or `ooo` (R72). -/
def middleField (op : Byte) : BitVec 3 := op.extractLsb' 3 3

/-- Bits 2 to 0 of an opcode, `sss` (R72). -/
def lowField (op : Byte) : BitVec 3 := op.extractLsb' 0 3

/-- The entry of an opcode that `Instr.mov` gives; there is none only for M to M, whose byte R79
takes as HLT before. -/
def Entry.ofOption : Option Instr → Entry
  | some i => .one i
  | none => .invalid

/-- The opcode table, by the decoding algorithm of R79, its tests in that order. -/
def opcodeTable (op : Byte) : Entry :=
  if op = 0x00 then .one .nop
  else if op = 0x76 then .one .hlt
  else if quadrantField op = 0b01 then
    .ofOption (Instr.mov (.ofField (middleField op)) (.ofField (lowField op)))
  else if quadrantField op = 0b10 then
    .one (Instr.alu (.ofField (middleField op)) (.reg (.ofField (lowField op))))
  else if quadrantField op = 0b00 ∧ lowField op = 0b100 then .one (Instr.inr (.ofField (middleField op)))
  else if quadrantField op = 0b00 ∧ lowField op = 0b101 then .one (Instr.dcr (.ofField (middleField op)))
  else if quadrantField op = 0b00 ∧ lowField op = 0b110 then .two (Instr.mvi (.ofField (middleField op)))
  else if quadrantField op = 0b11 ∧ lowField op = 0b110 then
    .two (fun n => Instr.alu (.ofField (middleField op)) (.imm n))
  else if op = 0xD3 then .two .out
  else .invalid

/-- The length in bytes a table entry declares: 1, 2, or 0 for "unimplemented/invalid" (R70, R80). -/
def Entry.width : Entry → Nat
  | .invalid => 0
  | .one _ => 1
  | .two _ => 2

/-- The declared length of the instruction an opcode byte begins (R80). -/
def opcodeWidth (op : Byte) : Nat := (opcodeTable op).width

/-- The display mnemonic of an opcode in the syntax of R84 (R85). The texts other than "INVALID"
are the spec's decision D22: UNVERIFIED, safe (log 13), nothing depends on them. -/
def opcodeMnemonic (op : Byte) : String :=
  let d := (Reg.ofField (middleField op)).name.toString
  let s := (Reg.ofField (lowField op)).name.toString
  let ooo := AluOp.ofField (middleField op)
  if op = 0x00 then "NOP"
  else if op = 0x76 then "HLT"
  else if quadrantField op = 0b01 then "MOV " ++ d ++ "," ++ s
  else if quadrantField op = 0b10 then ooo.regMnemonic ++ " " ++ s
  else if quadrantField op = 0b00 ∧ lowField op = 0b100 then "INR " ++ d
  else if quadrantField op = 0b00 ∧ lowField op = 0b101 then "DCR " ++ d
  else if quadrantField op = 0b00 ∧ lowField op = 0b110 then "MVI " ++ d ++ ",n"
  else if quadrantField op = 0b11 ∧ lowField op = 0b110 then ooo.immMnemonic ++ " n"
  else if op = 0xD3 then "OUT p"
  else "INVALID"

/-- The instruction descriptor of an opcode byte (R40, R70). -/
def descriptor (op : Byte) : Descriptor := ⟨opcodeMnemonic op, opcodeWidth op⟩

/-! ## Decoding -/

/-- Decode the instruction at the head of a string of bytes and give the bytes after it, or say by
name why there is none (R70, R75, R79, R81). The opcode byte alone selects the instruction and its
length; the byte after it is read only when the length is 2. -/
def decode : List Byte → Except DecodeError (Instr × List Byte)
  | [] => .error .noOpcode
  | op :: rest =>
    match opcodeTable op with
    | .invalid => .error (.invalidOpcode op)
    | .one i => .ok (i, rest)
    | .two build =>
      match rest with
      | [] => .error (.operandMissing op)
      | n :: rest' => .ok (build n, rest')

/-- The two bytes of a word numbered as opcode_table.json numbers it (bit 0 is the least significant
bit of the first byte), with every bit above the lowest `nbits` zero. -/
def tableBytes (nbits w : Nat) : List Byte :=
  [BitVec.ofNat 8 (w % 2 ^ nbits), BitVec.ofNat 8 (w % 2 ^ nbits / 256)]

/-- The instruction the decoder reads from a word numbered as opcode_table.json numbers it. -/
def decodeTableWord (nbits w : Nat) : Option Instr :=
  match decode (tableBytes nbits w) with
  | .ok (i, _) => some i
  | .error _ => none

/-! ## Encoding -/

/-- The bytes of an instruction, opcode first (R57), from the byte map of R77 and R78. -/
def encode : Instr → List Byte
  | .nop => [0x00]
  | .hlt => [0x76]
  | .movBB => [0x40] | .movBC => [0x41] | .movBD => [0x42] | .movBE => [0x43] | .movBH => [0x44]
  | .movBL => [0x45] | .movBM => [0x46] | .movBA => [0x47] | .movCB => [0x48] | .movCC => [0x49]
  | .movCD => [0x4A] | .movCE => [0x4B] | .movCH => [0x4C] | .movCL => [0x4D] | .movCM => [0x4E]
  | .movCA => [0x4F] | .movDB => [0x50] | .movDC => [0x51] | .movDD => [0x52] | .movDE => [0x53]
  | .movDH => [0x54] | .movDL => [0x55] | .movDM => [0x56] | .movDA => [0x57] | .movEB => [0x58]
  | .movEC => [0x59] | .movED => [0x5A] | .movEE => [0x5B] | .movEH => [0x5C] | .movEL => [0x5D]
  | .movEM => [0x5E] | .movEA => [0x5F] | .movHB => [0x60] | .movHC => [0x61] | .movHD => [0x62]
  | .movHE => [0x63] | .movHH => [0x64] | .movHL => [0x65] | .movHM => [0x66] | .movHA => [0x67]
  | .movLB => [0x68] | .movLC => [0x69] | .movLD => [0x6A] | .movLE => [0x6B] | .movLH => [0x6C]
  | .movLL => [0x6D] | .movLM => [0x6E] | .movLA => [0x6F] | .movMB => [0x70] | .movMC => [0x71]
  | .movMD => [0x72] | .movME => [0x73] | .movMH => [0x74] | .movML => [0x75] | .movMA => [0x77]
  | .movAB => [0x78] | .movAC => [0x79] | .movAD => [0x7A] | .movAE => [0x7B] | .movAH => [0x7C]
  | .movAL => [0x7D] | .movAM => [0x7E] | .movAA => [0x7F]
  | .mviB n => [0x06, n] | .mviC n => [0x0E, n] | .mviD n => [0x16, n] | .mviE n => [0x1E, n]
  | .mviH n => [0x26, n] | .mviL n => [0x2E, n] | .mviM n => [0x36, n] | .mviA n => [0x3E, n]
  | .addB => [0x80] | .addC => [0x81] | .addD => [0x82] | .addE => [0x83] | .addH => [0x84]
  | .addL => [0x85] | .addM => [0x86] | .addA => [0x87]
  | .adcB => [0x88] | .adcC => [0x89] | .adcD => [0x8A] | .adcE => [0x8B] | .adcH => [0x8C]
  | .adcL => [0x8D] | .adcM => [0x8E] | .adcA => [0x8F]
  | .subB => [0x90] | .subC => [0x91] | .subD => [0x92] | .subE => [0x93] | .subH => [0x94]
  | .subL => [0x95] | .subM => [0x96] | .subA => [0x97]
  | .sbbB => [0x98] | .sbbC => [0x99] | .sbbD => [0x9A] | .sbbE => [0x9B] | .sbbH => [0x9C]
  | .sbbL => [0x9D] | .sbbM => [0x9E] | .sbbA => [0x9F]
  | .inrB => [0x04] | .inrC => [0x0C] | .inrD => [0x14] | .inrE => [0x1C] | .inrH => [0x24]
  | .inrL => [0x2C] | .inrM => [0x34] | .inrA => [0x3C]
  | .dcrB => [0x05] | .dcrC => [0x0D] | .dcrD => [0x15] | .dcrE => [0x1D] | .dcrH => [0x25]
  | .dcrL => [0x2D] | .dcrM => [0x35] | .dcrA => [0x3D]
  | .anaB => [0xA0] | .anaC => [0xA1] | .anaD => [0xA2] | .anaE => [0xA3] | .anaH => [0xA4]
  | .anaL => [0xA5] | .anaM => [0xA6] | .anaA => [0xA7]
  | .xraB => [0xA8] | .xraC => [0xA9] | .xraD => [0xAA] | .xraE => [0xAB] | .xraH => [0xAC]
  | .xraL => [0xAD] | .xraM => [0xAE] | .xraA => [0xAF]
  | .oraB => [0xB0] | .oraC => [0xB1] | .oraD => [0xB2] | .oraE => [0xB3] | .oraH => [0xB4]
  | .oraL => [0xB5] | .oraM => [0xB6] | .oraA => [0xB7]
  | .cmpB => [0xB8] | .cmpC => [0xB9] | .cmpD => [0xBA] | .cmpE => [0xBB] | .cmpH => [0xBC]
  | .cmpL => [0xBD] | .cmpM => [0xBE] | .cmpA => [0xBF]
  | .adi n => [0xC6, n]
  | .aci n => [0xCE, n]
  | .sui n => [0xD6, n]
  | .sbi n => [0xDE, n]
  | .ani n => [0xE6, n]
  | .xri n => [0xEE, n]
  | .ori n => [0xF6, n]
  | .cpi n => [0xFE, n]
  | .out p => [0xD3, p]

end Sys2Proof
end

