-- ==== Sys2Proof/Machine/State.lean ====
section
/-! DEFINITION. The state of the machine: the tuple of file 10 section 1, whole, and the machine's
memory capacity; the reasons a step can stop; the state right after reset. -/

namespace Sys2Proof.Machine

/-- The register file: eight 8-bit slots, none hard-wired (R20, R22). -/
structure Regs where
  b : Byte
  c : Byte
  d : Byte
  e : Byte
  h : Byte
  l : Byte
  m : Byte
  a : Byte
  deriving DecidableEq, Repr

/-- The reason of an execution-time fault: an enumeration, no number (R220, R224, the spec's D23). -/
inductive FaultReason where
  | invalidOpcode
  | operandOutOfRange
  deriving DecidableEq, Repr

/-- The run state (R36): running; halted, "terminal, success"; or fault, "terminal, failure", which
records the reason, the offending opcode byte and the program counter at the time of fault. -/
inductive RunState where
  | running
  | halted
  | fault (reason : FaultReason) (opcode : Byte) (address : Word)
  deriving DecidableEq, Repr

/-- A diagnostic event of an OUT to port 0, 1, 2 or 3, with the values R202 and R203 list in their
order. The text a sink would render is not modelled (R5, R201). -/
inductive Event where
  | decimalA (a : Byte)
  | regs (b c d e h l m a : Byte)
  | pairs (bc de hl : Word)
  | status (sp pc : Word) (f : Byte) (running : Bool)
  deriving DecidableEq, Repr

/-- Bytes by address: the cells that do not hold the unlisted value, at strictly rising addresses
(`Memory.wf` in Ops.lean states the form). DESIGN CHOICE, safe (log 14). -/
abbrev Memory := List Host.Cell

/-- The machine's state (R20 to R41). DESIGN CHOICE, safe (log 1): the parameter MEM_SIZE stands in the
state, as the highest memory address `memTop`; nothing changes it. -/
structure State where
  /-- The eight register slots (R20). -/
  regs : Regs
  /-- The flag register `S Z 0 AC 0 P 1 CY` (R26). -/
  f : Byte
  /-- The stack pointer, used by no instruction (R34). -/
  sp : Word
  /-- The program counter (R35). -/
  pc : Word
  /-- The run state (R36). -/
  run : RunState
  /-- The highest memory address, MEM_SIZE - 1 (R6, R50); the model's own field. -/
  memTop : Word
  /-- Memory (R38, R50). -/
  mem : Memory
  /-- The 256 output ports, by port number (R39, R54), in the form of memory. -/
  ports : Memory
  /-- The diagnostic output stream, oldest event first (R41, R201; the spec's D13, log 11). -/
  out : List Event
  deriving DecidableEq, Repr

/-- Why `step` answers no next state. Both say that the machine has already stopped: R110 gives a
terminal state no successor. Raised by `step` alone; safe, since nothing is claimed to happen. -/
inductive Fault where
  /-- The run state is halted (R110, R141). -/
  | machineHalted
  /-- The run state is a fault, with this record (R110, R221, R222). -/
  | machineFaulted (reason : FaultReason) (opcode : Byte) (address : Word)
  deriving DecidableEq, Repr

/-- Why an instruction has no meaning in the model. No meaning answers with it. -/
inductive Refusal where
  /-- Not modelled yet, by the mnemonic of opcode_table.json: raised by `exec`'s arms only; safe. -/
  | notModelled (mnemonic : String)
  deriving DecidableEq, Repr

/-- Why no machine is built (R223, R255; U1 and U3 of file 93). `loadFailure`: there is no image;
`memSizeOutOfRange`: the capacity is outside 1..65536 (R6). Which one is reported where both hold is log 18. -/
inductive ConstructionError where
  | loadFailure
  | memSizeOutOfRange
  deriving DecidableEq, Repr

/-- What a meaning answers. -/
abbrev Result := Host.Outcome State Fault Refusal

/-- The machine right after reset (R250), for the reference capacity of R6 and an empty image, which
leaves memory all zero (R252). DESIGN CHOICE, unsafe (logs 1 and 2): the spec makes both inputs
of reset; `State.construct` takes any. -/
def State.reset : State where
  regs := ⟨0, 0, 0, 0, 0, 0, 0, 0⟩
  f := 0x02
  sp := 0
  pc := 0
  run := .running
  memTop := Config.referenceMemTop
  mem := []
  ports := []
  out := []

end Sys2Proof.Machine
end

