-- ==== Sys2Proof/Machine/Ops.lean ====
section
/-! DEFINITION. The named operations on memory, ports, registers and run state (file 00, R10). -/

namespace Sys2Proof.Machine

/-! ## Bytes by address -/

/-- What an unlisted address or port holds: memory and ports are zero until written (R38, R39). -/
def Memory.unlisted : Byte := 0x00

/-- The byte at an address, `MemRead(addr, 1)` (R51). A read has no side effect. -/
def Memory.read : Memory → Nat → Byte
  | [], _ => Memory.unlisted
  | (k, v) :: m, a => if k = a then v else Memory.read m a

/-- The cells but the one at an address. -/
def Memory.forget (m : Memory) (a : Nat) : Memory := m.filter (fun c => c.1 != a)

/-- Put a cell before the first cell at a higher address. -/
def Memory.place : Memory → Nat → Byte → Memory
  | [], a, v => [(a, v)]
  | (k, w) :: m, a, v => if a < k then (a, v) :: (k, w) :: m else (k, w) :: Memory.place m a v

/-- Make the byte at an address `v`, keeping the canonical form. -/
def Memory.write (m : Memory) (a : Nat) (v : Byte) : Memory :=
  if v = Memory.unlisted then Memory.forget m a else Memory.place (Memory.forget m a) a v

/-- The canonical form: addresses strictly rising, no cell that holds the unlisted value. -/
def Memory.wf : Memory → Bool
  | [] => true
  | (a, v) :: m => v != Memory.unlisted && m.all (fun c => a < c.1) && Memory.wf m

/-- The bytes of an image from an address on, in canonical form. -/
def Memory.loadFrom (a : Nat) : List Byte → Memory
  | [] => []
  | v :: bytes =>
    if v = Memory.unlisted then Memory.loadFrom (a + 1) bytes
    else (a, v) :: Memory.loadFrom (a + 1) bytes

/-- Memory after loading an image into `memSize` zero bytes: verbatim from offset 0, the bytes that do
not fit dropped (R38, R252). -/
def Memory.load (memSize : Nat) (image : List Byte) : Memory := Memory.loadFrom 0 (image.take memSize)

/-! ## Registers -/

/-- Read of a slot (R10, R22). -/
def Regs.get (r : Regs) : Reg → Byte
  | .b => r.b | .c => r.c | .d => r.d | .e => r.e | .h => r.h | .l => r.l | .m => r.m | .a => r.a

/-- Write of a slot (R10, R22). No slot is hard-wired; M is written like any other (R23). -/
def Regs.set (r : Regs) (i : Reg) (v : Byte) : Regs :=
  match i with
  | .b => { r with b := v }
  | .c => { r with c := v }
  | .d => { r with d := v }
  | .e => { r with e := v }
  | .h => { r with h := v }
  | .l => { r with l := v }
  | .m => { r with m := v }
  | .a => { r with a := v }

/-- A pair view, high byte first: `(high << 8) | low` (R32). -/
def pairOf (high low : Byte) : Word := high ++ low

/-- The pair view BC (R32). A pair is never stored, so it is never stale (R33). -/
def Regs.bc (r : Regs) : Word := pairOf r.b r.c

/-- The pair view DE (R32). -/
def Regs.de (r : Regs) : Word := pairOf r.d r.e

/-- The pair view HL (R32). -/
def Regs.hl (r : Regs) : Word := pairOf r.h r.l

/-! ## State -/

/-- The memory capacity MEM_SIZE, 1 to 65536 (R6, R50). -/
def State.memSize (s : State) : Nat := s.memTop.toNat + 1

/-- The running flag: the query `run == Running` (R37). -/
def State.runningFlag (s : State) : Bool := s.run == .running

def State.getReg (s : State) (r : Reg) : Byte := s.regs.get r

def State.setReg (s : State) (r : Reg) (v : Byte) : State := { s with regs := s.regs.set r v }

def State.setF (s : State) (v : Byte) : State := { s with f := v }

def State.setPc (s : State) (v : Word) : State := { s with pc := v }

def State.setRun (s : State) (r : RunState) : State := { s with run := r }

def State.setMem (s : State) (m : Memory) : State := { s with mem := m }

/-- `PortWrite(p, v)`: `ports[p] <- v`, any port number 0..255 (R54, R56). -/
def State.portWrite (s : State) (p v : Byte) : State := { s with ports := s.ports.write p.toNat v }

/-- `Emit(e)` for the event of a port write, if it has one (R201, R204). -/
def State.emitOpt (s : State) (e : Option Event) : State := { s with out := s.out ++ e.toList }

/-- The event of an OUT to a port, with the values of the state at the time of the OUT (R200, R202,
R203); none for ports 4 to 255 (R204). The pc that port 3 reports is the address of the OUT opcode:
the spec's decision D14, UNVERIFIED, unsafe (log 11). -/
def portEvent (p : Byte) (s : State) : Option Event :=
  if p = 0 then some (.decimalA s.regs.a)
  else if p = 1 then
    some (.regs s.regs.b s.regs.c s.regs.d s.regs.e s.regs.h s.regs.l s.regs.m s.regs.a)
  else if p = 2 then some (.pairs s.regs.bc s.regs.de s.regs.hl)
  else if p = 3 then some (.status s.sp s.pc s.f s.runningFlag)
  else none

/-! ## Faults -/

/-- Taking a fault, the core's whole exception entry (R225): the run state records the reason, the
opcode byte and the pc; nothing is saved, no control is transferred, the pc stays at the faulting
opcode and nothing else changes (R221, R222). There is no return from a fault and so no operation
for one (R228). -/
def State.raiseFault (s : State) (reason : FaultReason) (opcode : Byte) : State :=
  s.setRun (.fault reason opcode s.pc)

end Sys2Proof.Machine
end

