-- ==== Sys2Proof/Machine/Operands.lean ====
section
/-! DEFINITION. The value of an operand (file 30, R75): a register operand is the slot's byte; an
immediate is the byte exactly as read, neither extended nor scaled. -/

namespace Sys2Proof

/-- The second operand `b` of an accumulator operation, in the state before it (R75, R106). -/
def Operand.value : Operand → Machine.State → Byte
  | .reg r, s => s.getReg r
  | .imm n, _ => n

end Sys2Proof
end

