-- ==== Sys2Proof/Machine/Alu.lean ====
section
/-! DEFINITION. The operations the instruction families share (files 43 to 47). Each reads the state
before the instruction and writes its results together (R106, R129). -/

namespace Sys2Proof.Machine

/-- `reg[d] <- reg[s]` (R150). -/
def moveReg (dst src : Reg) (s : State) : State := s.setReg dst (s.getReg src)

/-- `A <- A + b + c` with all five flags (R160 to R163). The carry-in counts once in the sum and once in
each flag (R134, the spec's D4: UNVERIFIED, unsafe, log 6). -/
def addAcc (b : Byte) (c : Bool) (s : State) : State :=
  let a := s.getReg .a
  (s.setReg .a (addResult a b c)).setF (flagsOf (addResult a b c) (acAdd a b c) (cyAdd a b c))

/-- `A <- A - b - c` with all five flags (R164 to R167). -/
def subAcc (b : Byte) (c : Bool) (s : State) : State :=
  let a := s.getReg .a
  (s.setReg .a (subResult a b c)).setF (flagsOf (subResult a b c) (acSub a b c) (cySub a b c))

/-- The flags of `A - b`; no register is written and the old carry is ignored (R190, R191). -/
def cmpAcc (b : Byte) (s : State) : State :=
  let a := s.getReg .a
  s.setF (flagsOf (subResult a b false) (acSub a b false) (cySub a b false))

/-- `A <- A & b`, AC forced to 1 and CY to 0 (R131, R180, R181). -/
def andAcc (b : Byte) (s : State) : State :=
  let r := s.getReg .a &&& b
  (s.setReg .a r).setF (flagsOf r true false)

/-- `A <- A or b`, AC and CY forced to 0 (R131, R182, R183). -/
def orAcc (b : Byte) (s : State) : State :=
  let r := s.getReg .a ||| b
  (s.setReg .a r).setF (flagsOf r false false)

/-- `A <- A xor b`, AC and CY forced to 0 (R131, R184, R185). -/
def xorAcc (b : Byte) (s : State) : State :=
  let r := s.getReg .a ^^^ b
  (s.setReg .a r).setF (flagsOf r false false)

/-- `reg[d] <- reg[d] + 1`, carry kept (R132, R170). -/
def incReg (dst : Reg) (s : State) : State :=
  let v := s.getReg dst
  let r := addResult v 1 false
  (s.setReg dst r).setF (flagsOf r (acInc v) (flagCY s.f))

/-- `reg[d] <- reg[d] - 1`, carry kept (R132, R171). -/
def decReg (dst : Reg) (s : State) : State :=
  let v := s.getReg dst
  let r := subResult v 1 false
  (s.setReg dst r).setF (flagsOf r (acDec v) (flagCY s.f))

end Sys2Proof.Machine
end

