-- ==== Sys2Proof/Machine/AddSub.lean ====
section
/-! DEFINITION. The meanings of ADD, ADI, ADC, ACI, SUB, SUI, SBB, SBI (file 44), over the shared operations of Alu.lean. -/

namespace Sys2Proof.Machine

/-! ADD s (R160). -/

/-- ADD B (R160). -/
def execAddB (s : State) : Result := .next (addAcc ((Operand.reg .b).value s) false s)

/-- ADD C (R160). -/
def execAddC (s : State) : Result := .next (addAcc ((Operand.reg .c).value s) false s)

/-- ADD D (R160). -/
def execAddD (s : State) : Result := .next (addAcc ((Operand.reg .d).value s) false s)

/-- ADD E (R160). -/
def execAddE (s : State) : Result := .next (addAcc ((Operand.reg .e).value s) false s)

/-- ADD H (R160). -/
def execAddH (s : State) : Result := .next (addAcc ((Operand.reg .h).value s) false s)

/-- ADD L (R160). -/
def execAddL (s : State) : Result := .next (addAcc ((Operand.reg .l).value s) false s)

/-- ADD M (R160). -/
def execAddM (s : State) : Result := .next (addAcc ((Operand.reg .m).value s) false s)

/-- ADD A (R160). -/
def execAddA (s : State) : Result := .next (addAcc ((Operand.reg .a).value s) false s)

/-! ADI n (R161). -/

/-- ADI n (R161). -/
def execAdi (n : Byte) (s : State) : Result := .next (addAcc ((Operand.imm n).value s) false s)

/-! ADC s (R162). -/

/-- ADC B (R162). -/
def execAdcB (s : State) : Result := .next (addAcc ((Operand.reg .b).value s) (flagCY s.f) s)

/-- ADC C (R162). -/
def execAdcC (s : State) : Result := .next (addAcc ((Operand.reg .c).value s) (flagCY s.f) s)

/-- ADC D (R162). -/
def execAdcD (s : State) : Result := .next (addAcc ((Operand.reg .d).value s) (flagCY s.f) s)

/-- ADC E (R162). -/
def execAdcE (s : State) : Result := .next (addAcc ((Operand.reg .e).value s) (flagCY s.f) s)

/-- ADC H (R162). -/
def execAdcH (s : State) : Result := .next (addAcc ((Operand.reg .h).value s) (flagCY s.f) s)

/-- ADC L (R162). -/
def execAdcL (s : State) : Result := .next (addAcc ((Operand.reg .l).value s) (flagCY s.f) s)

/-- ADC M (R162). -/
def execAdcM (s : State) : Result := .next (addAcc ((Operand.reg .m).value s) (flagCY s.f) s)

/-- ADC A (R162). -/
def execAdcA (s : State) : Result := .next (addAcc ((Operand.reg .a).value s) (flagCY s.f) s)

/-! ACI n (R163). -/

/-- ACI n (R163). -/
def execAci (n : Byte) (s : State) : Result := .next (addAcc ((Operand.imm n).value s) (flagCY s.f) s)

/-! SUB s (R164). -/

/-- SUB B (R164). -/
def execSubB (s : State) : Result := .next (subAcc ((Operand.reg .b).value s) false s)

/-- SUB C (R164). -/
def execSubC (s : State) : Result := .next (subAcc ((Operand.reg .c).value s) false s)

/-- SUB D (R164). -/
def execSubD (s : State) : Result := .next (subAcc ((Operand.reg .d).value s) false s)

/-- SUB E (R164). -/
def execSubE (s : State) : Result := .next (subAcc ((Operand.reg .e).value s) false s)

/-- SUB H (R164). -/
def execSubH (s : State) : Result := .next (subAcc ((Operand.reg .h).value s) false s)

/-- SUB L (R164). -/
def execSubL (s : State) : Result := .next (subAcc ((Operand.reg .l).value s) false s)

/-- SUB M (R164). -/
def execSubM (s : State) : Result := .next (subAcc ((Operand.reg .m).value s) false s)

/-- SUB A (R164). -/
def execSubA (s : State) : Result := .next (subAcc ((Operand.reg .a).value s) false s)

/-! SUI n (R165). -/

/-- SUI n (R165). -/
def execSui (n : Byte) (s : State) : Result := .next (subAcc ((Operand.imm n).value s) false s)

/-! SBB s (R166). -/

/-- SBB B (R166). -/
def execSbbB (s : State) : Result := .next (subAcc ((Operand.reg .b).value s) (flagCY s.f) s)

/-- SBB C (R166). -/
def execSbbC (s : State) : Result := .next (subAcc ((Operand.reg .c).value s) (flagCY s.f) s)

/-- SBB D (R166). -/
def execSbbD (s : State) : Result := .next (subAcc ((Operand.reg .d).value s) (flagCY s.f) s)

/-- SBB E (R166). -/
def execSbbE (s : State) : Result := .next (subAcc ((Operand.reg .e).value s) (flagCY s.f) s)

/-- SBB H (R166). -/
def execSbbH (s : State) : Result := .next (subAcc ((Operand.reg .h).value s) (flagCY s.f) s)

/-- SBB L (R166). -/
def execSbbL (s : State) : Result := .next (subAcc ((Operand.reg .l).value s) (flagCY s.f) s)

/-- SBB M (R166). -/
def execSbbM (s : State) : Result := .next (subAcc ((Operand.reg .m).value s) (flagCY s.f) s)

/-- SBB A (R166). -/
def execSbbA (s : State) : Result := .next (subAcc ((Operand.reg .a).value s) (flagCY s.f) s)

/-! SBI n (R167). -/

/-- SBI n (R167). -/
def execSbi (n : Byte) (s : State) : Result := .next (subAcc ((Operand.imm n).value s) (flagCY s.f) s)

end Sys2Proof.Machine
end

