-- ==== Sys2Proof/Machine/Compare.lean ====
section
/-! DEFINITION. The meanings of CMP and CPI (file 47): the flags of a subtraction whose difference is discarded. -/

namespace Sys2Proof.Machine

/-! CMP s (R190). -/

/-- CMP B (R190). -/
def execCmpB (s : State) : Result := .next (cmpAcc ((Operand.reg .b).value s) s)

/-- CMP C (R190). -/
def execCmpC (s : State) : Result := .next (cmpAcc ((Operand.reg .c).value s) s)

/-- CMP D (R190). -/
def execCmpD (s : State) : Result := .next (cmpAcc ((Operand.reg .d).value s) s)

/-- CMP E (R190). -/
def execCmpE (s : State) : Result := .next (cmpAcc ((Operand.reg .e).value s) s)

/-- CMP H (R190). -/
def execCmpH (s : State) : Result := .next (cmpAcc ((Operand.reg .h).value s) s)

/-- CMP L (R190). -/
def execCmpL (s : State) : Result := .next (cmpAcc ((Operand.reg .l).value s) s)

/-- CMP M (R190). -/
def execCmpM (s : State) : Result := .next (cmpAcc ((Operand.reg .m).value s) s)

/-- CMP A (R190). -/
def execCmpA (s : State) : Result := .next (cmpAcc ((Operand.reg .a).value s) s)

/-! CPI n (R191). -/

/-- CPI n (R191). -/
def execCpi (n : Byte) (s : State) : Result := .next (cmpAcc ((Operand.imm n).value s) s)

end Sys2Proof.Machine
end

