-- ==== Sys2Proof/Machine/IncDec.lean ====
section
/-! DEFINITION. The meanings of INR and DCR (file 45). -/

namespace Sys2Proof.Machine

/-! INR d (R170). -/

/-- INR B (R170). -/
def execInrB (s : State) : Result := .next (incReg .b s)

/-- INR C (R170). -/
def execInrC (s : State) : Result := .next (incReg .c s)

/-- INR D (R170). -/
def execInrD (s : State) : Result := .next (incReg .d s)

/-- INR E (R170). -/
def execInrE (s : State) : Result := .next (incReg .e s)

/-- INR H (R170). -/
def execInrH (s : State) : Result := .next (incReg .h s)

/-- INR L (R170). -/
def execInrL (s : State) : Result := .next (incReg .l s)

/-- INR M (R170). -/
def execInrM (s : State) : Result := .next (incReg .m s)

/-- INR A (R170). -/
def execInrA (s : State) : Result := .next (incReg .a s)

/-! DCR d (R171). -/

/-- DCR B (R171). -/
def execDcrB (s : State) : Result := .next (decReg .b s)

/-- DCR C (R171). -/
def execDcrC (s : State) : Result := .next (decReg .c s)

/-- DCR D (R171). -/
def execDcrD (s : State) : Result := .next (decReg .d s)

/-- DCR E (R171). -/
def execDcrE (s : State) : Result := .next (decReg .e s)

/-- DCR H (R171). -/
def execDcrH (s : State) : Result := .next (decReg .h s)

/-- DCR L (R171). -/
def execDcrL (s : State) : Result := .next (decReg .l s)

/-- DCR M (R171). -/
def execDcrM (s : State) : Result := .next (decReg .m s)

/-- DCR A (R171). -/
def execDcrA (s : State) : Result := .next (decReg .a s)

end Sys2Proof.Machine
end

