-- ==== Sys2Proof/Machine/Logical.lean ====
section
/-! DEFINITION. The meanings of ANA, ANI, ORA, ORI, XRA, XRI (file 46). -/

namespace Sys2Proof.Machine

/-! ANA s (R180). -/

/-- ANA B (R180). -/
def execAnaB (s : State) : Result := .next (andAcc ((Operand.reg .b).value s) s)

/-- ANA C (R180). -/
def execAnaC (s : State) : Result := .next (andAcc ((Operand.reg .c).value s) s)

/-- ANA D (R180). -/
def execAnaD (s : State) : Result := .next (andAcc ((Operand.reg .d).value s) s)

/-- ANA E (R180). -/
def execAnaE (s : State) : Result := .next (andAcc ((Operand.reg .e).value s) s)

/-- ANA H (R180). -/
def execAnaH (s : State) : Result := .next (andAcc ((Operand.reg .h).value s) s)

/-- ANA L (R180). -/
def execAnaL (s : State) : Result := .next (andAcc ((Operand.reg .l).value s) s)

/-- ANA M (R180). -/
def execAnaM (s : State) : Result := .next (andAcc ((Operand.reg .m).value s) s)

/-- ANA A (R180). -/
def execAnaA (s : State) : Result := .next (andAcc ((Operand.reg .a).value s) s)

/-! ANI n (R181). -/

/-- ANI n (R181). -/
def execAni (n : Byte) (s : State) : Result := .next (andAcc ((Operand.imm n).value s) s)

/-! ORA s (R182). -/

/-- ORA B (R182). -/
def execOraB (s : State) : Result := .next (orAcc ((Operand.reg .b).value s) s)

/-- ORA C (R182). -/
def execOraC (s : State) : Result := .next (orAcc ((Operand.reg .c).value s) s)

/-- ORA D (R182). -/
def execOraD (s : State) : Result := .next (orAcc ((Operand.reg .d).value s) s)

/-- ORA E (R182). -/
def execOraE (s : State) : Result := .next (orAcc ((Operand.reg .e).value s) s)

/-- ORA H (R182). -/
def execOraH (s : State) : Result := .next (orAcc ((Operand.reg .h).value s) s)

/-- ORA L (R182). -/
def execOraL (s : State) : Result := .next (orAcc ((Operand.reg .l).value s) s)

/-- ORA M (R182). -/
def execOraM (s : State) : Result := .next (orAcc ((Operand.reg .m).value s) s)

/-- ORA A (R182). -/
def execOraA (s : State) : Result := .next (orAcc ((Operand.reg .a).value s) s)

/-! ORI n (R183). -/

/-- ORI n (R183). -/
def execOri (n : Byte) (s : State) : Result := .next (orAcc ((Operand.imm n).value s) s)

/-! XRA s (R184). -/

/-- XRA B (R184). -/
def execXraB (s : State) : Result := .next (xorAcc ((Operand.reg .b).value s) s)

/-- XRA C (R184). -/
def execXraC (s : State) : Result := .next (xorAcc ((Operand.reg .c).value s) s)

/-- XRA D (R184). -/
def execXraD (s : State) : Result := .next (xorAcc ((Operand.reg .d).value s) s)

/-- XRA E (R184). -/
def execXraE (s : State) : Result := .next (xorAcc ((Operand.reg .e).value s) s)

/-- XRA H (R184). -/
def execXraH (s : State) : Result := .next (xorAcc ((Operand.reg .h).value s) s)

/-- XRA L (R184). -/
def execXraL (s : State) : Result := .next (xorAcc ((Operand.reg .l).value s) s)

/-- XRA M (R184). -/
def execXraM (s : State) : Result := .next (xorAcc ((Operand.reg .m).value s) s)

/-- XRA A (R184). -/
def execXraA (s : State) : Result := .next (xorAcc ((Operand.reg .a).value s) s)

/-! XRI n (R185). -/

/-- XRI n (R185). -/
def execXri (n : Byte) (s : State) : Result := .next (xorAcc ((Operand.imm n).value s) s)

end Sys2Proof.Machine
end

