-- ==== Sys2Proof/Machine/Output.lean ====
section
/-! DEFINITION. The meaning of OUT (file 48). -/

namespace Sys2Proof.Machine

/-- OUT p: `ports[p] <- A`, and the diagnostic event of ports 0 to 3 (R200). The event carries the
state at the time of the OUT (R202, R203); the port write changes none of what it carries. -/
def execOut (p : Byte) (s : State) : Result :=
  .next ((s.portWrite p (s.getReg .a)).emitOpt (portEvent p s))

end Sys2Proof.Machine
end

