-- ==== Sys2Proof/Machine/System.lean ====
section
/-! DEFINITION. The meanings of NOP and HLT (file 42). The engine, not the instruction, advances the pc (R107). -/

namespace Sys2Proof.Machine

/-- NOP, no effect (R140). -/
def execNop (s : State) : Result := .next s

/-- HLT, the run state becomes halted (R141); the engine then advances the pc as after any executed
instruction (R107; decision D6 of the spec, UNVERIFIED, unsafe, log 8). -/
def execHlt (s : State) : Result := .next (s.setRun .halted)

end Sys2Proof.Machine
end

