-- ==== Sys2Proof/Machine/Transfer.lean ====
section
/-! DEFINITION. The meanings of MOV and MVI (file 43): a copy between register slots, an immediate into a slot. No flag is written; slot M is never an address (R23). -/

namespace Sys2Proof.Machine

/-! MOV d,s (R150): destination slot first. MOV M,M does not exist: its byte is HLT (R76). -/

/-- MOV B,B (R150). -/
def execMovBB (s : State) : Result := .next (moveReg .b .b s)

/-- MOV B,C (R150). -/
def execMovBC (s : State) : Result := .next (moveReg .b .c s)

/-- MOV B,D (R150). -/
def execMovBD (s : State) : Result := .next (moveReg .b .d s)

/-- MOV B,E (R150). -/
def execMovBE (s : State) : Result := .next (moveReg .b .e s)

/-- MOV B,H (R150). -/
def execMovBH (s : State) : Result := .next (moveReg .b .h s)

/-- MOV B,L (R150). -/
def execMovBL (s : State) : Result := .next (moveReg .b .l s)

/-- MOV B,M (R150). -/
def execMovBM (s : State) : Result := .next (moveReg .b .m s)

/-- MOV B,A (R150). -/
def execMovBA (s : State) : Result := .next (moveReg .b .a s)

/-- MOV C,B (R150). -/
def execMovCB (s : State) : Result := .next (moveReg .c .b s)

/-- MOV C,C (R150). -/
def execMovCC (s : State) : Result := .next (moveReg .c .c s)

/-- MOV C,D (R150). -/
def execMovCD (s : State) : Result := .next (moveReg .c .d s)

/-- MOV C,E (R150). -/
def execMovCE (s : State) : Result := .next (moveReg .c .e s)

/-- MOV C,H (R150). -/
def execMovCH (s : State) : Result := .next (moveReg .c .h s)

/-- MOV C,L (R150). -/
def execMovCL (s : State) : Result := .next (moveReg .c .l s)

/-- MOV C,M (R150). -/
def execMovCM (s : State) : Result := .next (moveReg .c .m s)

/-- MOV C,A (R150). -/
def execMovCA (s : State) : Result := .next (moveReg .c .a s)

/-- MOV D,B (R150). -/
def execMovDB (s : State) : Result := .next (moveReg .d .b s)

/-- MOV D,C (R150). -/
def execMovDC (s : State) : Result := .next (moveReg .d .c s)

/-- MOV D,D (R150). -/
def execMovDD (s : State) : Result := .next (moveReg .d .d s)

/-- MOV D,E (R150). -/
def execMovDE (s : State) : Result := .next (moveReg .d .e s)

/-- MOV D,H (R150). -/
def execMovDH (s : State) : Result := .next (moveReg .d .h s)

/-- MOV D,L (R150). -/
def execMovDL (s : State) : Result := .next (moveReg .d .l s)

/-- MOV D,M (R150). -/
def execMovDM (s : State) : Result := .next (moveReg .d .m s)

/-- MOV D,A (R150). -/
def execMovDA (s : State) : Result := .next (moveReg .d .a s)

/-- MOV E,B (R150). -/
def execMovEB (s : State) : Result := .next (moveReg .e .b s)

/-- MOV E,C (R150). -/
def execMovEC (s : State) : Result := .next (moveReg .e .c s)

/-- MOV E,D (R150). -/
def execMovED (s : State) : Result := .next (moveReg .e .d s)

/-- MOV E,E (R150). -/
def execMovEE (s : State) : Result := .next (moveReg .e .e s)

/-- MOV E,H (R150). -/
def execMovEH (s : State) : Result := .next (moveReg .e .h s)

/-- MOV E,L (R150). -/
def execMovEL (s : State) : Result := .next (moveReg .e .l s)

/-- MOV E,M (R150). -/
def execMovEM (s : State) : Result := .next (moveReg .e .m s)

/-- MOV E,A (R150). -/
def execMovEA (s : State) : Result := .next (moveReg .e .a s)

/-- MOV H,B (R150). -/
def execMovHB (s : State) : Result := .next (moveReg .h .b s)

/-- MOV H,C (R150). -/
def execMovHC (s : State) : Result := .next (moveReg .h .c s)

/-- MOV H,D (R150). -/
def execMovHD (s : State) : Result := .next (moveReg .h .d s)

/-- MOV H,E (R150). -/
def execMovHE (s : State) : Result := .next (moveReg .h .e s)

/-- MOV H,H (R150). -/
def execMovHH (s : State) : Result := .next (moveReg .h .h s)

/-- MOV H,L (R150). -/
def execMovHL (s : State) : Result := .next (moveReg .h .l s)

/-- MOV H,M (R150). -/
def execMovHM (s : State) : Result := .next (moveReg .h .m s)

/-- MOV H,A (R150). -/
def execMovHA (s : State) : Result := .next (moveReg .h .a s)

/-- MOV L,B (R150). -/
def execMovLB (s : State) : Result := .next (moveReg .l .b s)

/-- MOV L,C (R150). -/
def execMovLC (s : State) : Result := .next (moveReg .l .c s)

/-- MOV L,D (R150). -/
def execMovLD (s : State) : Result := .next (moveReg .l .d s)

/-- MOV L,E (R150). -/
def execMovLE (s : State) : Result := .next (moveReg .l .e s)

/-- MOV L,H (R150). -/
def execMovLH (s : State) : Result := .next (moveReg .l .h s)

/-- MOV L,L (R150). -/
def execMovLL (s : State) : Result := .next (moveReg .l .l s)

/-- MOV L,M (R150). -/
def execMovLM (s : State) : Result := .next (moveReg .l .m s)

/-- MOV L,A (R150). -/
def execMovLA (s : State) : Result := .next (moveReg .l .a s)

/-- MOV M,B (R150). -/
def execMovMB (s : State) : Result := .next (moveReg .m .b s)

/-- MOV M,C (R150). -/
def execMovMC (s : State) : Result := .next (moveReg .m .c s)

/-- MOV M,D (R150). -/
def execMovMD (s : State) : Result := .next (moveReg .m .d s)

/-- MOV M,E (R150). -/
def execMovME (s : State) : Result := .next (moveReg .m .e s)

/-- MOV M,H (R150). -/
def execMovMH (s : State) : Result := .next (moveReg .m .h s)

/-- MOV M,L (R150). -/
def execMovML (s : State) : Result := .next (moveReg .m .l s)

/-- MOV M,A (R150). -/
def execMovMA (s : State) : Result := .next (moveReg .m .a s)

/-- MOV A,B (R150). -/
def execMovAB (s : State) : Result := .next (moveReg .a .b s)

/-- MOV A,C (R150). -/
def execMovAC (s : State) : Result := .next (moveReg .a .c s)

/-- MOV A,D (R150). -/
def execMovAD (s : State) : Result := .next (moveReg .a .d s)

/-- MOV A,E (R150). -/
def execMovAE (s : State) : Result := .next (moveReg .a .e s)

/-- MOV A,H (R150). -/
def execMovAH (s : State) : Result := .next (moveReg .a .h s)

/-- MOV A,L (R150). -/
def execMovAL (s : State) : Result := .next (moveReg .a .l s)

/-- MOV A,M (R150). -/
def execMovAM (s : State) : Result := .next (moveReg .a .m s)

/-- MOV A,A (R150). -/
def execMovAA (s : State) : Result := .next (moveReg .a .a s)

/-! MVI d,n (R151). -/

/-- MVI B,n (R151). -/
def execMviB (n : Byte) (s : State) : Result := .next (s.setReg .b n)

/-- MVI C,n (R151). -/
def execMviC (n : Byte) (s : State) : Result := .next (s.setReg .c n)

/-- MVI D,n (R151). -/
def execMviD (n : Byte) (s : State) : Result := .next (s.setReg .d n)

/-- MVI E,n (R151). -/
def execMviE (n : Byte) (s : State) : Result := .next (s.setReg .e n)

/-- MVI H,n (R151). -/
def execMviH (n : Byte) (s : State) : Result := .next (s.setReg .h n)

/-- MVI L,n (R151). -/
def execMviL (n : Byte) (s : State) : Result := .next (s.setReg .l n)

/-- MVI M,n (R151). -/
def execMviM (n : Byte) (s : State) : Result := .next (s.setReg .m n)

/-- MVI A,n (R151). -/
def execMviA (n : Byte) (s : State) : Result := .next (s.setReg .a n)

end Sys2Proof.Machine
end

