-- ==== Sys2Proof/Machine/Fetch.lean ====
section
/-! DEFINITION. The parts of a step around execution (file 40, R101): the wrap of the pc, the two
fetches with their checks, the advance of the pc; and the placing of bytes in memory by the host. -/

namespace Sys2Proof.Machine

/-- The address the next step fetches its opcode from: the pc, or 0 if the pc is at or beyond
MEM_SIZE (R102). -/
def State.fetchAddr (s : State) : Word := if s.memSize ≤ s.pc.toNat then 0 else s.pc

/-- Part 1 of a step: the pc is reset to 0 if it is at or beyond MEM_SIZE (R102). The wrap is to 0,
whatever the pc was. -/
def State.wrapPc (s : State) : State := s.setPc s.fetchAddr

/-- The opcode byte at the pc (R103). -/
def State.opcodeAtPc (s : State) : Byte := s.mem.read s.pc.toNat

/-- Parts 2 to 4 of a step, in R101's order: the opcode is fetched and looked up; a width of 0 is an
invalid opcode (R104); the operand of a width-2 instruction is the next byte if that is inside
memory, and a fault otherwise (R105; the spec's decision D8, UNVERIFIED, safe, log 10). -/
def State.fetch (s : State) : Except FaultReason Instr :=
  match opcodeTable s.opcodeAtPc with
  | .invalid => .error .invalidOpcode
  | .one i => .ok i
  | .two build =>
    if s.pc.toNat + 1 < s.memSize then .ok (build (s.mem.read (s.pc.toNat + 1)))
    else .error .operandOutOfRange

/-- Part 6 of a step: `pc <- (pc + w) mod 65536` (R107; the modulus is the spec's
decision D7, UNVERIFIED, safe, log 16). -/
def State.advancePc (s : State) (w : Nat) : State := s.setPc (BitVec.ofNat 16 (s.pc.toNat + w))

/-- The bytes of memory that an instruction at the pc can take up: at most two, and none beyond
MEM_SIZE (R50, R70). -/
def State.bytesAtPc (s : State) : List Byte :=
  if s.pc.toNat + 1 < s.memSize then [s.mem.read s.pc.toNat, s.mem.read (s.pc.toNat + 1)]
  else [s.mem.read s.pc.toNat]

/-- Memory with bytes stored from an address on, those that fall at or beyond `memSize` dropped, as
for an image (R252). -/
def Memory.storeFrom (m : Memory) (memSize a : Nat) : List Byte → Memory
  | [] => m
  | v :: bytes =>
    if a < memSize then Memory.storeFrom (m.write a v) memSize (a + 1) bytes
    else m

end Sys2Proof.Machine
end

