-- ==== Sys2Proof/Machine/Step.lean ====
section
/-! DEFINITION. One step of the engine (file 40, R101), and the host's placing of an instruction. -/

namespace Sys2Proof.Machine

/-- One whole instruction, from the wrap of the pc to its advance (R101). A fault of the fetch is an
event the machine records in its run state, so it is a next state (R221, R222, R225; log 3); a
terminal run state has no successor (R110). -/
def step (s : State) : Host.Outcome State Fault Refusal :=
  match s.run with
  | .halted => .fault .machineHalted
  | .fault reason opcode address => .fault (.machineFaulted reason opcode address)
  | .running =>
    match s.wrapPc.fetch with
    | .error reason => .next (s.wrapPc.raiseFault reason s.wrapPc.opcodeAtPc)
    | .ok i =>
      match exec i s.wrapPc with
      | .next t => .next (t.advancePc (opcodeWidth s.wrapPc.opcodeAtPc))
      | .fault reason => .fault reason
      | .refused reason => .refused reason

/-- The state with an instruction, numbered as opcode_table.json numbers it, stored where the next
step fetches: the host's load of a program (log 2). A byte that would fall outside memory is
dropped, as loading an image drops it (R252). -/
def State.withFetchWord (s : State) (nbits w : Nat) : State :=
  s.setMem (s.mem.storeFrom s.memSize s.fetchAddr.toNat (tableBytes nbits w))

end Sys2Proof.Machine
end

