-- ==== Sys2Proof/Machine/Query.lean ====
section
/-! DEFINITION. The host's read-only queries (file 60, R233). They return the state of file 10 and
change nothing; the pc, sp, flag byte and run state are fields of `State` and need no function. -/

namespace Sys2Proof.Machine

/-- "read any 8-bit register by index" (R20, R24: an index is 0 to 7). -/
def State.regByIndex (s : State) (i : Fin 8) : Byte := s.getReg (Reg.ofField (BitVec.ofFin i))

/-- The slot a debug name stands for (R21). -/
def Reg.ofName (n : Char) : Option Reg :=
  [Reg.b, .c, .d, .e, .h, .l, .m, .a].find? (fun r => r.name == n)

/-- "read any 8-bit register by name" (R21); none for a character that names no slot. -/
def State.regByName (s : State) (n : Char) : Option Byte := (Reg.ofName n).map s.getReg

/-- "read any register pair" BC (R32). -/
def State.bc (s : State) : Word := s.regs.bc

/-- "read any register pair" DE (R32). -/
def State.de (s : State) : Word := s.regs.de

/-- "read any register pair" HL (R32). -/
def State.hl (s : State) : Word := s.regs.hl

/-- "read memory contents": the byte at an address, if the address exists (R50, R51). -/
def State.memAt (s : State) (a : Nat) : Option Byte :=
  if a < s.memSize then some (s.mem.read a) else none

/-- "iterate memory contents", from address 0 upward. -/
def State.memContents (s : State) : List Byte := (List.range s.memSize).map s.mem.read

/-- "read any port value" (R39, R55). -/
def State.portAt (s : State) (p : Byte) : Byte := s.ports.read p.toNat

end Sys2Proof.Machine
end

