-- ==== Sys2Proof/Machine/Reset.lean ====
section
/-! DEFINITION. Reset, "construction" (file 70, R250 to R255): a function of the capacity and the
image. -/

namespace Sys2Proof.Machine

/-- The machine built from a capacity and an image (R250, R252), or the reason there is none: no image
could be read (R223, R255), or the capacity is outside 1..65536 (R6, U1). Never a partial machine.
Where both hold the spec gives no order; the missing image is the reason reported (DESIGN CHOICE,
unsafe, log 18). -/
def State.construct (memSize : Nat) (image : Option (List Byte)) : Except ConstructionError State :=
  match image with
  | none => .error .loadFailure
  | some bytes =>
    if 1 ≤ memSize ∧ memSize ≤ Config.largestMemSize then
      .ok { State.reset with
        memTop := BitVec.ofNat 16 (memSize - 1)
        mem := Memory.load memSize bytes }
    else .error .memSizeOutOfRange

end Sys2Proof.Machine
end

