-- ==== Sys2Proof/Safety.lean ====
section
/-! DEFINITION. The terms that claims about the core use: the run loop, what stays true from step to
step, what two runs share when only data differ, and the spec's flag formulas written once more on
plain numbers, so that a claim about flags does not repeat the flag engine's own text. -/

namespace Sys2Proof.Machine

/-! ## The run loop -/

/-- The loop of R100, `while run == Running do step`, for at most `fuel` steps. The bound is the
caller's, not the core's (R113, the spec's D20). -/
def runLoop : Nat → State → State
  | 0, s => s
  | fuel + 1, s =>
    if s.run = .running then
      match step s with
      | .next t => runLoop fuel t
      | .fault _ => s
      | .refused _ => s
    else s

/-- The run ends: at some number of steps the run state is no longer `Running` (R36). -/
def Stops (s : State) : Prop := ∃ n, (runLoop n s).run ≠ .running

/-- The run ends in success: HLT is reached (R36, R257). -/
def EndsInSuccess (s : State) : Prop := ∃ n, (runLoop n s).run = .halted

/-- A safe run: no step of it ends in a fault (R220). -/
def Safe (s : State) : Prop :=
  ∀ n reason opcode address, (runLoop n s).run ≠ .fault reason opcode address

/-! ## Invariants -/

/-- What is true at reset and kept by every step. -/
structure State.Inv (s : State) : Prop where
  /-- Memory keeps its canonical form. -/
  memCanonical : s.mem.wf = true
  /-- No byte is held at an address that does not exist (R50). -/
  memInside : s.mem.all (fun c => c.1 < s.memSize) = true
  /-- The ports keep the same form. -/
  portsCanonical : s.ports.wf = true
  /-- There are 256 ports (R39). -/
  portsInside : s.ports.all (fun c => c.1 < 256) = true
  /-- The reserved bits of the flag register are constant (R27). -/
  reservedBits : s.f &&& 0x2A = 0x02
  /-- A fault records the pc and the byte there, which lies in memory; its opcode is invalid, or has
  width 2 and is the last byte of memory (R221, R222, R225). -/
  faultRecord : ∀ reason opcode address, s.run = .fault reason opcode address →
    address = s.pc ∧ address.toNat < s.memSize ∧ opcode = s.mem.read address.toNat ∧
      match reason with
      | .invalidOpcode => opcodeWidth opcode = 0
      | .operandOutOfRange => opcodeWidth opcode = 2 ∧ address = s.memTop

/-- An event that the core can emit: that of port 3 reports a stack pointer of 0, a pc inside memory,
reserved flag bits at their constants and a running flag that is true (R34, R203). -/
def Event.possible (memSize : Nat) : Event → Bool
  | .status sp pc f running => sp == 0 && decide (pc.toNat < memSize) && f &&& 0x2A == 0x02 && running
  | .decimalA _ => true
  | .regs _ _ _ _ _ _ _ _ => true
  | .pairs _ _ _ => true

/-- What is true of every state that a run from reset reaches. -/
structure State.Reached (s : State) : Prop extends State.Inv s where
  /-- The pc is MEM_SIZE at most (R112). -/
  pcBound : s.pc.toNat ≤ s.memSize
  /-- The stack pointer is never written (R34). -/
  spZero : s.sp = 0
  /-- Every event emitted is one the core can emit. -/
  events : s.out.all (Event.possible s.memSize) = true

/-- The accumulator value that the last `DecimalA` event of a stream carries, or 0 (R202). -/
def lastDecimal (events : List Event) : Byte :=
  events.foldl (fun last e => match e with
    | .decimalA a => a
    | .regs _ _ _ _ _ _ _ _ => last
    | .pairs _ _ _ => last
    | .status _ _ _ _ => last) 0

/-! ## Frames -/

/-- Everything but the registers and the flag register is as before: the two pointers, the run state,
the capacity, the event stream, every byte of memory and every port. -/
def State.SameButRegsAndFlags (s t : State) : Prop :=
  t.sp = s.sp ∧ t.pc = s.pc ∧ t.run = s.run ∧ t.memTop = s.memTop ∧ t.out = s.out ∧
    (∀ a, t.mem.read a = s.mem.read a) ∧ (∀ p, t.ports.read p = s.ports.read p)

/-- Two states between which only data differ: they hold the same memory, will fetch from the same
address and have the same run state. -/
def SameControl (s t : State) : Prop :=
  s.mem = t.mem ∧ s.memTop = t.memTop ∧ s.run = t.run ∧ s.fetchAddr = t.fetchAddr

/-! ## The flag byte on plain numbers -/

/-- The number of 1 bits of a number below 256 is even (R123). -/
def evenOnes (r : Nat) : Bool :=
  (r % 2 + r / 2 % 2 + r / 4 % 2 + r / 8 % 2 + r / 16 % 2 + r / 32 % 2 + r / 64 % 2 + r / 128 % 2) % 2 == 0

/-- `(S << 7) | (Z << 6) | (AC << 4) | (P << 2) | 0x02 | CY` (R26) for the result `r`, a number below
256: S is its bit 7 (R121), Z says that it is 0 (R122), P that its 1 bits are even in number (R123). -/
def flagNumber (r : Nat) (ac cy : Bool) : Nat :=
  128 * (decide (128 ≤ r)).toNat + 64 * (r == 0).toNat + 16 * ac.toNat + 4 * (evenOnes r).toNat + 2 +
    cy.toNat

end Sys2Proof.Machine
end

