-- ==== Sys2Proof/Certificates/Slice0/Obligations.lean ====
section
/-! DEFINITION. What is claimed of the core. Each statement's docstring names the rules of spec/ it
formalises; "log n" is notes/assumptions/n.md. A statement that rests on a decision the spec marks
as its own (D1, D3, ...) says so. -/

open Sys2Proof Sys2Proof.Machine

/-! ## Encoding -/

/-- Decoding and encoding are inverse on every string of bytes: a string decodes to an instruction and
a rest exactly when it is that instruction's bytes and then the rest (R70, R75, R79, R83). So no bit
of an encoding is dropped, and no two encodings mean one instruction. Every instruction is well formed. The byte values themselves
are the spec's D1 (log 4); the statement holds whatever they are. -/
def Obligations.DecodeInvertsEncode : Prop :=
  ∀ (bs : List Byte) (i : Instr) (rest : List Byte),
    decode bs = .ok (i, rest) ↔ bs = encode i ++ rest

/-- A string of bytes is exactly one well-formed instruction, by the byte lists of R80 and R82, if and
only if it is some instruction's encoding. Which bytes are valid is the spec's D1 (log 4). -/
def Obligations.WellFormedBytesAreTheEncodings : Prop :=
  ∀ bs : List Byte, wellFormedBytes bs = true ↔ ∃ i, encode i = bs

/-- Decoding is total, and refuses by name exactly what R81, R82 and R105 say: nothing to decode, one
of the 94 invalid bytes first, or one of the 17 width-2 bytes with nothing after it (D1, log 4). -/
def Obligations.DecodeRefusesExactlyByName : Prop :=
  ∀ bs : List Byte,
    (decode bs = .error .noOpcode ↔ bs = []) ∧
    (∀ op, decode bs = .error (.invalidOpcode op) ↔ bs.head? = some op ∧ op ∈ invalidOpcodes) ∧
    (∀ op, decode bs = .error (.operandMissing op) ↔ bs = [op] ∧ op ∈ twoByteOpcodes)

/-- The opcode table is total; its declared widths are those of R80 and R82, byte by byte: 94 bytes of
width 0, 17 of width 2, 145 of width 1 (D1, log 4). -/
def Obligations.OpcodeWidthsFollowTheLists : Prop :=
  (∀ op : Byte, (descriptor op).width =
    if op ∈ invalidOpcodes then 0 else if op ∈ twoByteOpcodes then 2 else 1) ∧
  invalidOpcodes.length = 94 ∧ twoByteOpcodes.length = 17

/-- The fields stand where R72 draws them: `ddd` in bits 5 to 3, `sss` in bits 2 to 0, `ooo` in bits 5
to 3, the operand byte second (D1, log 4). -/
def Obligations.EncodingsPlaceTheFields : Prop :=
  (∀ dst src i, Instr.mov dst src = some i →
    encode i = [BitVec.ofNat 8 (0x40 + 8 * dst.index + src.index)]) ∧
  (∀ dst n, encode (Instr.mvi dst n) = [BitVec.ofNat 8 (0x06 + 8 * dst.index), n]) ∧
  (∀ dst, encode (Instr.inr dst) = [BitVec.ofNat 8 (0x04 + 8 * dst.index)]) ∧
  (∀ dst, encode (Instr.dcr dst) = [BitVec.ofNat 8 (0x05 + 8 * dst.index)]) ∧
  (∀ op src, encode (Instr.alu op (.reg src)) = [BitVec.ofNat 8 (0x80 + 8 * op.index + src.index)]) ∧
  (∀ op n, encode (Instr.alu op (.imm n)) = [BitVec.ofNat 8 (0xC6 + 8 * op.index), n]) ∧
  (∀ p, encode (.out p) = [0xD3, p]) ∧ encode .nop = [0x00] ∧ encode .hlt = [0x76]

/-- The six opcode bytes the source shows in its scenarios decode as it says, and 0xFF, which it names,
is invalid (file 95, S1 to S4; R77, column "anchored"). -/
def Obligations.AnchoredBytesDecode : Prop :=
  decode [0x3E, 0x05] = .ok (.mviA 5, []) ∧ decode [0x76] = .ok (.hlt, []) ∧
  decode [0x06, 0x03] = .ok (.mviB 3, []) ∧ decode [0x0E, 0x04] = .ok (.mviC 4, []) ∧
  decode [0x80] = .ok (.addB, []) ∧ decode [0xC6, 0x01] = .ok (.adi 1, []) ∧
  decode [0xFF] = .error (.invalidOpcode 0xFF)

/-- One word of each format, written out bit by bit from R72, R73 and R74 (D1, log 4). -/
def Obligations.FormatsDecodeBitByBit : Prop :=
  decode [0b00000000] = .ok (.nop, []) ∧
  decode [0b01010011] = .ok (.movDE, []) ∧
  decode [0b00110100] = .ok (.inrM, []) ∧
  decode [0b00101101] = .ok (.dcrL, []) ∧
  decode [0b10011101] = .ok (.sbbL, []) ∧
  decode [0b10101000] = .ok (.xraB, []) ∧
  decode [0b00100110, 0b10101011] = .ok (.mviH 0xAB, []) ∧
  decode [0b11110110, 0b10000000] = .ok (.ori 0x80, []) ∧
  decode [0b11010011, 0b00000011] = .ok (.out 3, [])

/-! ## The flag engine -/

/-- Sign is bit 7 of the byte (R121); Zero says the byte is 0, tested on the 8-bit result, so that
0xFF + 0x01 is zero (R122); Parity says its number of 1 bits is even, which is the exclusive-or form
R123 gives too. -/
def Obligations.SignZeroParityOfTheByte : Prop :=
  (∀ v : Byte, sign v = decide (128 ≤ v.toNat)) ∧
  (∀ v : Byte, zero v = decide (v.toNat = 0)) ∧
  (∀ (a b : Byte) (c : Bool), zero (addResult a b c) = decide ((a.toNat + b.toNat + c.toNat) % 256 = 0)) ∧
  zero (addResult 0xFF 0x01 false) = true ∧
  (∀ v : Byte, parity v = evenOnes v.toNat) ∧
  (∀ v : Byte, parity v = (true ^^ v.getLsbD 7 ^^ v.getLsbD 6 ^^ v.getLsbD 5 ^^ v.getLsbD 4 ^^
    v.getLsbD 3 ^^ v.getLsbD 2 ^^ v.getLsbD 1 ^^ v.getLsbD 0)) ∧
  parity 0x00 = true ∧ parity 0xFF = true ∧ parity 0x01 = false ∧ parity 0x0F = true

/-- Carry of an addition is bit 8 of the sum (R124); auxiliary carry is the carry out of bit 3 (R126). -/
def Obligations.CarriesOfAddition : Prop :=
  ∀ (a b : Byte) (c : Bool),
    cyAdd a b c = decide (255 < a.toNat + b.toNat + c.toNat) ∧
    cyAdd a b c = (a.toNat + b.toNat + c.toNat).testBit 8 ∧
    acAdd a b c = decide (15 < a.toNat % 16 + b.toNat % 16 + c.toNat) ∧
    acAdd a b c = (a.toNat % 16 + b.toNat % 16 + c.toNat).testBit 4

/-- The borrow of a subtraction, and the auxiliary borrow with its consequences as R127 lists them:
with `c = 0` it is the borrow out of the low nibble, and with `b[3:0] = 0xF` and `c = 1` it is 0
whatever `a` is, while the carry for `b = 0xFF`, `c = 1` is 1 whatever `a` is (R125). The width of
`b + c` is the spec's D5 (log 7). -/
def Obligations.BorrowsOfSubtraction : Prop :=
  ∀ (a b : Byte) (c : Bool),
    cySub a b c = decide (a.toNat < b.toNat + c.toNat) ∧
    acSub a b c = decide (a.toNat % 16 < (b.toNat + c.toNat) % 16) ∧
    (c = false → acSub a b c = decide (a.toNat % 16 < b.toNat % 16)) ∧
    (b.toNat % 16 = 15 → c = true → acSub a b c = false) ∧
    (b = 0xFF → c = true → cySub a b c = true ∧ subResult a b c = a)

/-- The flag byte is `S Z 0 AC 0 P 1 CY`, and 0x02 at reset (R26, R30). -/
def Obligations.FlagByteLayout : Prop :=
  (∀ s z ac p cy : Bool,
    (pack s z ac p cy).toNat =
      128 * s.toNat + 64 * z.toNat + 16 * ac.toNat + 4 * p.toNat + 2 + cy.toNat) ∧
  (∀ s z ac p cy : Bool,
    flagS (pack s z ac p cy) = s ∧ flagZ (pack s z ac p cy) = z ∧ flagAC (pack s z ac p cy) = ac ∧
    flagP (pack s z ac p cy) = p ∧ flagCY (pack s z ac p cy) = cy ∧
    (pack s z ac p cy).getLsbD 1 = true ∧ (pack s z ac p cy).getLsbD 3 = false ∧
    (pack s z ac p cy).getLsbD 5 = false) ∧
  State.reset.f = 0x02 ∧ flagS State.reset.f = false ∧ flagZ State.reset.f = false ∧
  flagAC State.reset.f = false ∧ flagP State.reset.f = false ∧ flagCY State.reset.f = false

/-! ## What each instruction does

Each statement gives the whole next state, so it is also the statement that the instruction completes.
`Instr.alu op src` is the row of the operation `op` with the operand `src`: `.add` with `.reg .b` is
`addB`, with `.imm n` it is `adi n`. -/

/-- NOP changes nothing; HLT makes the run state halted and changes nothing else (R140, R141; that the
engine advances the pc after HLT too is the spec's D6, log 8, and not part of this statement).
Constructors: nop, hlt. -/
def Obligations.NopAndHltComplete : Prop :=
  ∀ s : State, exec .nop s = .next s ∧ exec .hlt s = .next { s with run := .halted }

/-- MOV d,s copies slot s to slot d, for the 63 pairs that exist; only M to M does not (R150, R76).
Constructors: the 63 of MOV, movBB to movAA. -/
def Obligations.MovCopiesTheSlot : Prop :=
  (∀ dst src i, Instr.mov dst src = some i → ∀ s : State,
    exec i s = .next { s with regs := s.regs.set dst (s.regs.get src) }) ∧
  (∀ dst src, Instr.mov dst src = none ↔ dst = .m ∧ src = .m)

/-- MVI d,n loads the immediate byte into slot d and writes no flag (R151).
Constructors: mviB, mviC, mviD, mviE, mviH, mviL, mviM, mviA. -/
def Obligations.MviLoadsTheImmediate : Prop :=
  ∀ (dst : Reg) (n : Byte) (s : State),
    exec (Instr.mvi dst n) s = .next { s with regs := s.regs.set dst n }

/-- ADD s and ADI n: `A <- (A + b) mod 256` with all five flags, the old carry ignored (R160, R161).
Constructors: addB, addC, addD, addE, addH, addL, addM, addA, adi. -/
def Obligations.AddWritesSumAndFlags : Prop :=
  ∀ (src : Operand) (s : State) (a b : Nat), a = s.regs.a.toNat → b = (src.value s).toNat →
    exec (Instr.alu .add src) s = .next { s with
      regs := s.regs.set .a (BitVec.ofNat 8 (a + b))
      f := BitVec.ofNat 8 (flagNumber ((a + b) % 256)
        (decide (15 < a % 16 + b % 16)) (decide (255 < a + b))) }

/-- ADC s and ACI n: `A <- (A + b + CY) mod 256` with all five flags; the old carry counts once in the
sum and once in each flag, the spec's D4 (R162, R163, R134; log 6).
Constructors: adcB, adcC, adcD, adcE, adcH, adcL, adcM, adcA, aci. -/
def Obligations.AdcWritesSumAndFlags : Prop :=
  ∀ (src : Operand) (s : State) (a b c : Nat), a = s.regs.a.toNat → b = (src.value s).toNat →
    c = s.f.toNat % 2 →
    exec (Instr.alu .adc src) s = .next { s with
      regs := s.regs.set .a (BitVec.ofNat 8 (a + b + c))
      f := BitVec.ofNat 8 (flagNumber ((a + b + c) % 256)
        (decide (15 < a % 16 + b % 16 + c)) (decide (255 < a + b + c))) }

/-- SUB s and SUI n: `A <- (A - b) mod 256`; CY says `a < b` and AC says `a[3:0] < b[3:0]` (R164, R165).
Constructors: subB, subC, subD, subE, subH, subL, subM, subA, sui. -/
def Obligations.SubWritesDifferenceAndFlags : Prop :=
  ∀ (src : Operand) (s : State) (a b : Nat), a = s.regs.a.toNat → b = (src.value s).toNat →
    exec (Instr.alu .sub src) s = .next { s with
      regs := s.regs.set .a (BitVec.ofNat 8 (a + 256 - b))
      f := BitVec.ofNat 8 (flagNumber ((a + 256 - b) % 256)
        (decide (a % 16 < b % 16)) (decide (a < b))) }

/-- SBB s and SBI n: `A <- (A - b - CY) mod 256`; CY says `a < b + c`, AC `a[3:0] < ((b + c) & 0x0F)`
(R166, R167; single counting is the spec's D4, the width of `b + c` its D5; logs 6 and 7).
Constructors: sbbB, sbbC, sbbD, sbbE, sbbH, sbbL, sbbM, sbbA, sbi. -/
def Obligations.SbbWritesDifferenceAndFlags : Prop :=
  ∀ (src : Operand) (s : State) (a b c : Nat), a = s.regs.a.toNat → b = (src.value s).toNat →
    c = s.f.toNat % 2 →
    exec (Instr.alu .sbb src) s = .next { s with
      regs := s.regs.set .a (BitVec.ofNat 8 (a + 256 - (b + c)))
      f := BitVec.ofNat 8 (flagNumber ((a + 256 - (b + c)) % 256)
        (decide (a % 16 < (b + c) % 16)) (decide (a < b + c))) }

/-- CMP s and CPI n: no register is written; the flags are those of the difference `A - b`, the old
carry ignored (R190, R191; that S, Z and P describe the difference is the spec's D3, log 5).
Constructors: cmpB, cmpC, cmpD, cmpE, cmpH, cmpL, cmpM, cmpA, cpi. -/
def Obligations.CmpWritesOnlyFlags : Prop :=
  ∀ (src : Operand) (s : State) (a b : Nat), a = s.regs.a.toNat → b = (src.value s).toNat →
    exec (Instr.alu .cmp src) s = .next { s with
      f := BitVec.ofNat 8 (flagNumber ((a + 256 - b) % 256)
        (decide (a % 16 < b % 16)) (decide (a < b))) }

/-- The logical instructions: A gets the bitwise result; S, Z and P describe it; CY is forced to 0; AC
is forced to 1 by AND and to 0 by OR and exclusive OR, whatever the operands (R131, R180 to R185).
Constructors: anaB, anaC, anaD, anaE, anaH, anaL, anaM, anaA, ani, oraB, oraC, oraD, oraE, oraH,
oraL, oraM, oraA, ori, xraB, xraC, xraD, xraE, xraH, xraL, xraM, xraA, xri. -/
def Obligations.LogicalWritesResultAndForcedFlags : Prop :=
  ∀ (src : Operand) (s : State) (a b : Byte), a = s.regs.a → b = src.value s →
    exec (Instr.alu .ana src) s = .next { s with
      regs := s.regs.set .a (a &&& b)
      f := BitVec.ofNat 8 (flagNumber (a.toNat &&& b.toNat) true false) } ∧
    exec (Instr.alu .ora src) s = .next { s with
      regs := s.regs.set .a (a ||| b)
      f := BitVec.ofNat 8 (flagNumber (a.toNat ||| b.toNat) false false) } ∧
    exec (Instr.alu .xra src) s = .next { s with
      regs := s.regs.set .a (a ^^^ b)
      f := BitVec.ofNat 8 (flagNumber (a.toNat ^^^ b.toNat) false false) }

/-- INR d: slot d gets its value plus 1 modulo 256; AC says that the low nibble wrapped from 0xF; CY is
kept (R132, R170; that S, Z and P describe slot d is the spec's D3, log 5).
Constructors: inrB, inrC, inrD, inrE, inrH, inrL, inrM, inrA. -/
def Obligations.InrIncrementsTheSlot : Prop :=
  ∀ (dst : Reg) (s : State) (v : Nat), v = (s.regs.get dst).toNat →
    exec (Instr.inr dst) s = .next { s with
      regs := s.regs.set dst (BitVec.ofNat 8 (v + 1))
      f := BitVec.ofNat 8 (flagNumber ((v + 1) % 256) (decide (v % 16 = 15)) (s.f.getLsbD 0)) }

/-- DCR d: slot d gets its value minus 1 modulo 256; AC says that the low nibble wrapped from 0x0; CY
is kept (R132, R171; D3, log 5). Constructors: dcrB, dcrC, dcrD, dcrE, dcrH, dcrL, dcrM, dcrA. -/
def Obligations.DcrDecrementsTheSlot : Prop :=
  ∀ (dst : Reg) (s : State) (v : Nat), v = (s.regs.get dst).toNat →
    exec (Instr.dcr dst) s = .next { s with
      regs := s.regs.set dst (BitVec.ofNat 8 (v + 255))
      f := BitVec.ofNat 8 (flagNumber ((v + 255) % 256) (decide (v % 16 = 0)) (s.f.getLsbD 0)) }

/-- OUT p: `ports[p] <- A` for every port number; ports 0 to 3 append one event with the values of the
state at the time of the OUT, the others none (R200, R202, R203, R204; the form of the events is the
spec's D13, the pc and running flag of port 3 its D14, log 11). Constructor: out. -/
def Obligations.OutStoresAndEmits : Prop :=
  ∀ (p : Byte) (s : State),
    exec (.out p) s = .next { s with
      ports := s.ports.write p.toNat s.regs.a
      out := s.out ++
        (if p.toNat = 0 then [.decimalA s.regs.a]
         else if p.toNat = 1 then
           [.regs s.regs.b s.regs.c s.regs.d s.regs.e s.regs.h s.regs.l s.regs.m s.regs.a]
         else if p.toNat = 2 then
           [.pairs (BitVec.ofNat 16 (256 * s.regs.b.toNat + s.regs.c.toNat))
             (BitVec.ofNat 16 (256 * s.regs.d.toNat + s.regs.e.toNat))
             (BitVec.ofNat 16 (256 * s.regs.h.toNat + s.regs.l.toNat))]
         else if p.toNat = 3 then [.status s.sp s.pc s.f (decide (s.run = .running))]
         else []) }

/-! ## Frames -/

/-- The accumulator operations (the 72 constructors of ADD, ADC, SUB, SBB, ANA, XRA, ORA, CMP and their
immediate forms) leave every register but A, and CMP and CPI leave A too; the reserved flag bits
hold their constants (R27, the spec's D16, log 17); sp, pc, run state, events, every byte of memory
and every port are unchanged. -/
def Obligations.AccumulatorOperationFrame : Prop :=
  ∀ (op : AluOp) (src : Operand) (s t : State), exec (Instr.alu op src) s = .next t →
    s.SameButRegsAndFlags t ∧ (∀ r, r ≠ .a → t.regs.get r = s.regs.get r) ∧
      (op = .cmp → t.regs.a = s.regs.a) ∧ t.f &&& 0x2A = 0x02

/-- MOV and MVI leave every register but the destination, and the whole flag register (R28), and
everything else. -/
def Obligations.MoveFrame : Prop :=
  (∀ dst src i, Instr.mov dst src = some i → ∀ s t : State, exec i s = .next t →
    s.SameButRegsAndFlags t ∧ t.f = s.f ∧ ∀ r, r ≠ dst → t.regs.get r = s.regs.get r) ∧
  (∀ (dst : Reg) (n : Byte) (s t : State), exec (Instr.mvi dst n) s = .next t →
    s.SameButRegsAndFlags t ∧ t.f = s.f ∧ ∀ r, r ≠ dst → t.regs.get r = s.regs.get r)

/-- INR and DCR leave every register but the one they name (never the other half of a pair) and the
carry; the reserved flag bits hold their constants (R27, the spec's D16, log 17); everything else is
unchanged (R132, R170, R171). -/
def Obligations.IncrementDecrementFrame : Prop :=
  ∀ (dst : Reg) (i : Instr) (s t : State), i = Instr.inr dst ∨ i = Instr.dcr dst → exec i s = .next t →
    s.SameButRegsAndFlags t ∧ (∀ r, r ≠ dst → t.regs.get r = s.regs.get r) ∧
      flagCY t.f = flagCY s.f ∧ t.f &&& 0x2A = 0x02

/-- NOP leaves everything; HLT leaves everything but the run state; OUT leaves registers, flags, sp, pc,
run state, memory and every port but the one it names, and appends at most one event. -/
def Obligations.NopHltOutFrame : Prop :=
  (∀ s t : State, exec .nop s = .next t → t = s) ∧
  (∀ s t : State, exec .hlt s = .next t → t.regs = s.regs ∧ t.f = s.f ∧ t.sp = s.sp ∧ t.pc = s.pc ∧
    t.memTop = s.memTop ∧ t.out = s.out ∧ (∀ a, t.mem.read a = s.mem.read a) ∧
    ∀ p, t.ports.read p = s.ports.read p) ∧
  (∀ (p : Byte) (s t : State), exec (.out p) s = .next t → t.regs = s.regs ∧ t.f = s.f ∧ t.sp = s.sp ∧
    t.pc = s.pc ∧ t.run = s.run ∧ t.memTop = s.memTop ∧ (∀ a, t.mem.read a = s.mem.read a) ∧
    t.ports.read p.toNat = s.regs.a ∧ (∀ q, q ≠ p.toNat → t.ports.read q = s.ports.read q) ∧
    ∃ e : Option Event, t.out = s.out ++ e.toList)

/-- Every instruction completes, and no instruction writes memory, the stack pointer or the pc; only HLT
writes the run state (R53, R34, R106, R36, R227). -/
def Obligations.EveryInstructionCompletes : Prop :=
  ∀ (i : Instr) (s : State), ∃ t, exec i s = .next t ∧ t.mem = s.mem ∧ t.memTop = s.memTop ∧
    t.sp = s.sp ∧ t.pc = s.pc ∧ (i ≠ .hlt → t.run = s.run)

/-! ## Laws over several instructions -/

/-- Slot M is an ordinary register, never an address: whatever memory holds, an instruction does the
same and leaves memory as it is; and the forms R23 names act on slot 6. -/
def Obligations.SlotMIsNeverAnAddress : Prop :=
  (∀ (i : Instr) (s t : State) (m : Memory), exec i s = .next t →
    exec i { s with mem := m } = .next { t with mem := m } ∧ t.mem = s.mem) ∧
  (∀ s : State, exec .movAM s = .next { s with regs := { s.regs with a := s.regs.m } }) ∧
  (∀ (n : Byte) (s : State), exec (.mviM n) s = .next { s with regs := { s.regs with m := n } }) ∧
  (∀ s t : State, exec .addM s = .next t → t.regs.a = s.regs.a + s.regs.m ∧ t.regs.m = s.regs.m) ∧
  (∀ s t : State, exec .inrM s = .next t → t.regs.m = s.regs.m + 1)

/-- The carry-in `c` of the flag engine (R128). ADC, ACI, SBB and SBI compute the result, Zero, AC and CY
with the old carry, ADD, ADI, SUB, SUI, CMP, CPI, INR and DCR with 0, and the accumulator operations
other than ADC, ACI, SBB and SBI do the same whatever the flag register held. Inverting the carry
changes, for every instruction but those four, no register, no flag but the carry (which some keep),
no port and nothing else but the flag byte that OUT to port 3 reports. That the one `c` goes into result
and flags alike is the spec's D4 (log 6), the width of `b + c` its D5 (log 7), and that Zero describes
the discarded difference of a compare and the slot of INR and DCR its D3 (log 5). -/
def Obligations.CarryInOfEachInstruction : Prop :=
  (∀ (op : AluOp) (src : Operand) (s t : State) (a b c : Nat), a = s.regs.a.toNat →
    b = (src.value s).toNat → (op = .adc ∧ c = s.f.toNat % 2) ∨ (op = .add ∧ c = 0) →
    exec (Instr.alu op src) s = .next t →
    t.regs.a.toNat = (a + b + c) % 256 ∧ flagZ t.f = decide ((a + b + c) % 256 = 0) ∧
    flagAC t.f = decide (15 < a % 16 + b % 16 + c) ∧ flagCY t.f = decide (255 < a + b + c)) ∧
  (∀ (op : AluOp) (src : Operand) (s t : State) (a b c : Nat), a = s.regs.a.toNat →
    b = (src.value s).toNat →
    (op = .sbb ∧ c = s.f.toNat % 2) ∨ ((op = .sub ∨ op = .cmp) ∧ c = 0) →
    exec (Instr.alu op src) s = .next t →
    t.regs.a.toNat = (if op = .cmp then a else (a + 256 - (b + c)) % 256) ∧
    flagZ t.f = decide ((a + 256 - (b + c)) % 256 = 0) ∧
    flagAC t.f = decide (a % 16 < (b + c) % 16) ∧ flagCY t.f = decide (a < b + c)) ∧
  (∀ (dst : Reg) (s t : State) (v : Nat), v = (s.regs.get dst).toNat →
    (exec (Instr.inr dst) s = .next t → (t.regs.get dst).toNat = (v + 1) % 256 ∧
      flagZ t.f = decide ((v + 1) % 256 = 0) ∧ flagAC t.f = decide (15 < v % 16 + 1)) ∧
    (exec (Instr.dcr dst) s = .next t → (t.regs.get dst).toNat = (v + 255) % 256 ∧
      flagZ t.f = decide ((v + 255) % 256 = 0) ∧ flagAC t.f = decide (v % 16 < 1))) ∧
  (∀ (op : AluOp) (src : Operand) (s : State) (f : Byte), op ≠ .adc → op ≠ .sbb →
    exec (Instr.alu op src) { s with f := f } = exec (Instr.alu op src) s) ∧
  (∀ (i : Instr) (s t u : State), (∀ src, i ≠ Instr.alu .adc src ∧ i ≠ Instr.alu .sbb src) →
    exec i s = .next t → exec i { s with f := s.f ^^^ 0x01 } = .next u →
    u.f ||| 0x01 = t.f ||| 0x01 ∧ (i ≠ .out 3 → u = { t with f := u.f }) ∧
    u = { t with f := u.f, out := u.out })

/-- ADD and then SUB of the same operand restores every register, and S, Z and P then describe A (R133,
S7 of file 95). The operand is a register other than A or an immediate; for A itself the pair leaves 0. -/
def Obligations.AddThenSubRestoresTheAccumulator : Prop :=
  ∀ (src : Operand) (s t u : State), exec (Instr.alu .add src) s = .next t →
    exec (Instr.alu .sub src) t = .next u →
    (src ≠ .reg .a → u.regs = s.regs) ∧ (src = .reg .a → u.regs = s.regs.set .a 0) ∧
    flagS u.f = decide (128 ≤ u.regs.a.toNat) ∧ flagZ u.f = decide (u.regs.a.toNat = 0) ∧
    flagP u.f = evenOnes u.regs.a.toNat

/-- CMP and CPI leave A as it is and set the flags that SUB and SUI set from the same state (R133; S8 of
file 95, "flags equal those produced by an equivalent SUB/SUI with the same operands"). -/
def Obligations.CompareSetsTheFlagsOfSubtract : Prop :=
  ∀ (src : Operand) (s t u : State), exec (Instr.alu .cmp src) s = .next t →
    exec (Instr.alu .sub src) s = .next u →
    t.f = u.f ∧ t.regs = s.regs ∧ (flagZ t.f = true ↔ s.regs.a = src.value s) ∧
    (flagCY t.f = true ↔ s.regs.a.toNat < (src.value s).toNat)

/-- INR d and DCR d agree with ADI 1 and SUI 1 on the slot's value in the result and in every flag but
the carry, which they keep (R132, its last sentence, for every register): A is given slot d's value,
and what ADI 1 or SUI 1 then leaves in A is what INR or DCR leaves in slot d; the other slots and
everything outside registers and flags agree too. For A itself the two differ in the carry alone.
That S, Z and P describe slot d is the spec's D3 (log 5). -/
def Obligations.IncrementAgreesWithAddOfOne : Prop :=
  ∀ (dst : Reg) (s t u v w : State),
    exec (Instr.inr dst) s = .next t →
    exec (.adi 1) { s with regs := s.regs.set .a (s.regs.get dst) } = .next u →
    exec (Instr.dcr dst) s = .next v →
    exec (.sui 1) { s with regs := s.regs.set .a (s.regs.get dst) } = .next w →
    (t = { u with regs := s.regs.set dst u.regs.a, f := t.f } ∧
      t.f ||| 0x01 = u.f ||| 0x01 ∧ flagCY t.f = flagCY s.f ∧ (dst = .a → t = { u with f := t.f })) ∧
    (v = { w with regs := s.regs.set dst w.regs.a, f := v.f } ∧
      v.f ||| 0x01 = w.f ||| 0x01 ∧ flagCY v.f = flagCY s.f ∧ (dst = .a → v = { w with f := v.f }))

/-- A pair view is always `(high << 8) | low` of its halves, after any instruction too, and 0 at reset
(R32, R33). -/
def Obligations.PairViewsFollowTheirHalves : Prop :=
  (∀ s : State, s.bc.toNat = 256 * s.regs.b.toNat + s.regs.c.toNat ∧
    s.de.toNat = 256 * s.regs.d.toNat + s.regs.e.toNat ∧
    s.hl.toNat = 256 * s.regs.h.toNat + s.regs.l.toNat) ∧
  State.reset.bc = 0 ∧ State.reset.de = 0 ∧ State.reset.hl = 0

/-- The register file: a slot reads as last written, a write touches no other slot, and no slot is
hard-wired; the queries by index and by debug name read the same slots in the order B, C, D, E, H, L,
M, A (R20, R21, R22, R233). -/
def Obligations.RegisterFileHoldsWhatWasWritten : Prop :=
  (∀ (r : Regs) (i j : Reg) (v : Byte), (r.set i v).get j = if j = i then v else r.get j) ∧
  (∀ s : State, [s.regByIndex 0, s.regByIndex 1, s.regByIndex 2, s.regByIndex 3, s.regByIndex 4,
      s.regByIndex 5, s.regByIndex 6, s.regByIndex 7] =
    [s.regs.b, s.regs.c, s.regs.d, s.regs.e, s.regs.h, s.regs.l, s.regs.m, s.regs.a]) ∧
  (∀ s : State, "BCDEHLMA".toList.map s.regByName =
    [s.regs.b, s.regs.c, s.regs.d, s.regs.e, s.regs.h, s.regs.l, s.regs.m, s.regs.a].map some)

/-- Memory and ports: a read gives the byte last written and a write touches no other address; writing
keeps the canonical form. -/
def Obligations.ReadAfterWriteOfBytes : Prop :=
  ∀ (m : Memory) (a b : Nat) (v : Byte),
    (m.write a v).read b = (if b = a then v else m.read b) ∧
    (m.wf = true → (m.write a v).wf = true)

/-! ## The step -/

/-- A step of a running machine whose bytes at the pc, after the wrap, decode to an instruction is that
instruction's execution and then the advance of the pc past its bytes (R101, R106, R107). -/
def Obligations.StepRunsTheDecodedInstruction : Prop :=
  ∀ (s t : State) (i : Instr) (rest : List Byte), s.run = .running →
    decode s.wrapPc.bytesAtPc = .ok (i, rest) → exec i s.wrapPc = .next t →
    step s = .next { t with pc := BitVec.ofNat 16 (t.pc.toNat + (encode i).length) }

/-- A pc at or beyond MEM_SIZE is reset to 0 before the fetch, whatever it was, and this is no fault:
the step is the step of the same state with pc 0, a fault of the fetch included; a pc below MEM_SIZE
is fetched from as it is (R102). -/
def Obligations.PcBeyondMemoryWrapsToZero : Prop :=
  ∀ s : State,
    (s.memSize ≤ s.pc.toNat → s.fetchAddr = 0 ∧ (s.run = .running → step s = step { s with pc := 0 })) ∧
    (s.pc.toNat < s.memSize → s.fetchAddr = s.pc ∧ s.wrapPc = s)

/-- Fetching an opcode of width 0 ends the step in the fault state with the opcode byte and the address
it was fetched from; nothing else changes but the wrap of the pc; so scenario D of the source ends
in InvalidOpcode at 0 with A still 0 (R104, R221). That nothing else changes is the spec's D10; that the
fault is a next state which holds the record is the model's reading (DEDUCED, log 3). -/
def Obligations.InvalidOpcodeFaultsAndChangesNothingElse : Prop :=
  (∀ s : State, s.run = .running → opcodeWidth (s.mem.read s.fetchAddr.toNat) = 0 →
    step s = .next { s with
      pc := s.fetchAddr
      run := .fault .invalidOpcode (s.mem.read s.fetchAddr.toNat) s.fetchAddr }) ∧
  (∃ s, State.construct 64 (some [0xFF]) = .ok s ∧ s.regs.a = 0 ∧
    step s = .next { s with run := .fault .invalidOpcode 0xFF 0x0000 })

/-- A width-2 opcode in the last byte of memory ends the step in the fault state OperandOutOfRange;
nothing else changes but the wrap of the pc (R105, R222: the spec's own fault, its D8, log 10). -/
def Obligations.OperandBeyondMemoryFaults : Prop :=
  ∀ s : State, s.run = .running → opcodeWidth (s.mem.read s.fetchAddr.toNat) = 2 →
    s.fetchAddr.toNat + 1 = s.memSize →
    step s = .next { s with
      pc := s.fetchAddr
      run := .fault .operandOutOfRange (s.mem.read s.fetchAddr.toNat) s.fetchAddr }

/-- A terminal state has no successor (R110; the spec's D19): halted and fault stop the model by name. -/
def Obligations.TerminalStatesDoNotStep : Prop :=
  ∀ s : State, (s.run = .halted → step s = .fault .machineHalted) ∧
    (∀ reason opcode address, s.run = .fault reason opcode address →
      step s = .fault (.machineFaulted reason opcode address))

/-- The step function is total on running states (R109), and only on those: a terminal state has no step
(R110, the spec's D19; the shape of the run state, R36, is its D9). That a fetch fault is a next state
and that a terminal state answers a named fault are the model's reading (DEDUCED, log 3). -/
def Obligations.StepAnswersExactlyWhenRunning : Prop :=
  ∀ s : State, s.run = .running ↔ ∃ t, step s = .next t

/-- What leaves the running state: HLT, byte 0x76, makes it halted; the two faults of the fetch make it
a fault; nothing else does (R36, R220, R227). The fault OperandOutOfRange is the spec's own, its D8
(log 10), the byte of HLT its D2 (log 4), the shape of the run state its D9; that a fault record is a
next state is the model's reading (DEDUCED, log 3). -/
def Obligations.OnlyHltAndFaultsLeaveRunning : Prop :=
  ∀ s t : State, step s = .next t →
    t.run = .running ∨
    (t.run = .halted ∧ s.mem.read s.fetchAddr.toNat = 0x76) ∨
    (t.run = .fault .invalidOpcode (s.mem.read s.fetchAddr.toNat) s.fetchAddr ∧
      opcodeWidth (s.mem.read s.fetchAddr.toNat) = 0) ∨
    (t.run = .fault .operandOutOfRange (s.mem.read s.fetchAddr.toNat) s.fetchAddr ∧
      opcodeWidth (s.mem.read s.fetchAddr.toNat) = 2 ∧ s.fetchAddr.toNat + 1 = s.memSize)

/-- A step that does not fault moves the pc from the fetch address by the declared width, which is 1 or
2, after HLT too (R107, R111; S5 of file 95; the advance after HLT is the spec's D6, log 8), and
leaves it at MEM_SIZE at most (R112); one that faults leaves it at the fetch address (R225). -/
def Obligations.StepMovesThePcByTheWidth : Prop :=
  ∀ s t : State, step s = .next t →
    ((t.run = .running ∨ t.run = .halted) →
      t.pc.toNat = (s.fetchAddr.toNat + opcodeWidth (s.mem.read s.fetchAddr.toNat)) % 65536 ∧
      (opcodeWidth (s.mem.read s.fetchAddr.toNat) = 1 ∨ opcodeWidth (s.mem.read s.fetchAddr.toNat) = 2) ∧
      t.pc.toNat ≤ s.memSize) ∧
    (∀ reason opcode address, t.run = .fault reason opcode address → t.pc = s.fetchAddr)

/-- A step that ends in a fault changes nothing but the run state and, if it had to be wrapped, the pc
(R109, R225). -/
def Obligations.FaultingStepChangesOnlyTheRunState : Prop :=
  ∀ s t : State, step s = .next t → ∀ reason opcode address, t.run = .fault reason opcode address →
    t = { s with pc := s.fetchAddr, run := .fault reason opcode address }

/-- A step emits at most one event, and one only for OUT to a port 0 to 3 (R204; that nothing else emits
is the spec's D21, log 12; that the byte of OUT is 0xD3 is its D1, log 4). -/
def Obligations.StepEmitsOnlyForOut : Prop :=
  ∀ s t : State, step s = .next t →
    t.out = s.out ∨
    ((∃ e, t.out = s.out ++ [e]) ∧ s.mem.read s.fetchAddr.toNat = 0xD3 ∧
      (s.mem.read (s.fetchAddr.toNat + 1)).toNat ≤ 3)

/-- Port 0 holds the value of the last `DecimalA` event (R200, R202): true at reset and kept by every
step. -/
def Obligations.PortZeroHoldsTheLastDecimal : Prop :=
  State.reset.ports.read 0 = lastDecimal State.reset.out ∧
  ∀ s t : State, s.ports.read 0 = lastDecimal s.out → step s = .next t →
    t.ports.read 0 = lastDecimal t.out

/-! ## Invariants -/

/-- The invariant at reset. -/
def Obligations.InvariantAtReset : Prop := State.reset.Inv

/-- Every step keeps the invariant: memory and ports canonical and inside their spaces, the reserved flag
bits constant (R27), and a fault record that names the pc and the byte there (R221, R222, R225). -/
def Obligations.StepKeepsTheInvariant : Prop :=
  ∀ s t : State, s.Inv → step s = .next t → t.Inv

/-- What holds of every reachable state holds of every machine that construction gives. -/
def Obligations.ConstructedMachinesAreReached : Prop :=
  ∀ (memSize : Nat) (image : Option (List Byte)) (s : State),
    State.construct memSize image = .ok s → s.Reached

/-- Every step keeps what holds of every reachable state: the invariant; the pc at MEM_SIZE at most
(R112); the stack pointer 0 (R34); and every event one that the core can emit (R203). -/
def Obligations.StepKeepsReached : Prop :=
  ∀ s t : State, s.Reached → step s = .next t → t.Reached

/-! ## Runs -/

/-- No run writes memory or the stack pointer, whatever the program and however long (R53, R34), and a
run that has stopped stays as it is (R110). -/
def Obligations.RunsNeverWriteMemory : Prop :=
  ∀ (n k : Nat) (s : State), (runLoop n s).mem = s.mem ∧ (runLoop n s).sp = s.sp ∧
    (runLoop n s).memTop = s.memTop ∧
    ((runLoop n s).run ≠ .running → runLoop (n + k) s = runLoop n s)

/-- Control flow never depends on data: two machines with the same memory, fetch address and run state,
whatever their registers, flags, ports and events, have the same fetch address and run state after
any number of steps (R111, R262). -/
def Obligations.ControlFlowIgnoresData : Prop :=
  ∀ (n : Nat) (s t : State), SameControl s t → SameControl (runLoop n s) (runLoop n t)

/-- A run that comes back to address 0 still running never stops, and fetches the same addresses again
and again (R262: "the machine never stops ... its instruction stream repeats"). -/
def Obligations.FullPassRepeatsForever : Prop :=
  ∀ (s : State) (k : Nat), 0 < k → s.run = .running → s.fetchAddr = 0 →
    (runLoop k s).run = .running → (runLoop k s).fetchAddr = 0 →
    ∀ n, (runLoop n s).run = .running ∧ (runLoop (k + n) s).fetchAddr = (runLoop n s).fetchAddr

/-- Termination is decided by the first pass: from address 0, a run stops, ends in success, or is free
of faults for ever, exactly as MEM_SIZE steps show (R262: "the machine reaches Halted or Fault if and
only if the first pass does"). -/
def Obligations.FirstPassDecidesTermination : Prop :=
  ∀ s : State, s.run = .running → s.fetchAddr = 0 →
    (Stops s ↔ (runLoop s.memSize s).run ≠ .running) ∧
    (EndsInSuccess s ↔ (runLoop s.memSize s).run = .halted) ∧
    (Safe s ↔ ∀ reason opcode address, (runLoop s.memSize s).run ≠ .fault reason opcode address)

/-! ## Reset -/

/-- At reset every register slot is 0 (R25) and the flag register is 0x02, all five flags 0 (R30), for
every capacity and image. -/
def Obligations.ResetClearsRegistersAndFlags : Prop :=
  (State.reset.regs = ⟨0, 0, 0, 0, 0, 0, 0, 0⟩ ∧ State.reset.f = 0x02) ∧
  ∀ (memSize : Nat) (image : Option (List Byte)) (s : State), State.construct memSize image = .ok s →
    (∀ r, s.regs.get r = 0) ∧ s.f = 0x02 ∧ flagS s.f = false ∧ flagZ s.f = false ∧
    flagAC s.f = false ∧ flagP s.f = false ∧ flagCY s.f = false

/-- Loading the image: for every legal capacity and every image, of any length, a machine is built whose
byte i is the image's byte i where the image has one and 0 otherwise (R252). -/
def Obligations.ImageIsLoadedVerbatim : Prop :=
  ∀ (memSize : Nat) (image : List Byte), 1 ≤ memSize → memSize ≤ 65536 →
    ∃ s, State.construct memSize (some image) = .ok s ∧ s.memSize = memSize ∧
      ∀ i, i < memSize → s.mem.read i = image.getD i 0x00

/-- Construction: the other reset values (R35 to R41; sp is the spec's D15, log 9); `State.reset` is the
machine of the reference capacity and an empty image, the model's choice (logs 1 and 2); and no
machine is built without an image (R223, R255) or with a capacity outside 1..65536 (R6, D11). Where both
fail the spec gives no order; that the missing image is then the one reported is the model's choice
(DESIGN CHOICE, log 18). -/
def Obligations.ConstructionGivesResetOrAnError : Prop :=
  State.construct 64 (some []) = .ok State.reset ∧
  (∀ memSize image s, State.construct memSize (some image) = .ok s →
    s.pc = 0 ∧ s.sp = 0 ∧ s.run = .running ∧ s.runningFlag = true ∧ s.out = [] ∧
    ∀ p, s.portAt p = 0) ∧
  (∀ memSize, State.construct memSize none = .error .loadFailure) ∧
  (∀ memSize image, memSize = 0 ∨ 65536 < memSize →
    State.construct memSize (some image) = .error .memSizeOutOfRange)
end

