-- ==== Sys2Proof/Laws/Flags.lean ====
section
/-! SUPPORT. What each function of the flag engine says, as numbers: later proofs cite these and do not
unfold the engine. -/

namespace Sys2Proof.Machine

/-- The flag byte as a number (R26). -/
theorem pack_toNat (s z ac p cy : Bool) :
    (pack s z ac p cy).toNat =
      128 * s.toNat + 64 * z.toNat + 16 * ac.toNat + 4 * p.toNat + 2 + cy.toNat := by
  cases s <;> cases z <;> cases ac <;> cases p <;> cases cy <;> rfl

/-- The reserved bits of a packed flag byte are constant (R27). -/
@[simp] theorem pack_reserved (s z ac p cy : Bool) : pack s z ac p cy &&& 0x2A = 0x02 := by
  cases s <;> cases z <;> cases ac <;> cases p <;> cases cy <;> rfl

@[simp] theorem flagS_pack (s z ac p cy : Bool) : flagS (pack s z ac p cy) = s := by
  cases s <;> cases z <;> cases ac <;> cases p <;> cases cy <;> rfl

@[simp] theorem flagZ_pack (s z ac p cy : Bool) : flagZ (pack s z ac p cy) = z := by
  cases s <;> cases z <;> cases ac <;> cases p <;> cases cy <;> rfl

@[simp] theorem flagAC_pack (s z ac p cy : Bool) : flagAC (pack s z ac p cy) = ac := by
  cases s <;> cases z <;> cases ac <;> cases p <;> cases cy <;> rfl

@[simp] theorem flagP_pack (s z ac p cy : Bool) : flagP (pack s z ac p cy) = p := by
  cases s <;> cases z <;> cases ac <;> cases p <;> cases cy <;> rfl

@[simp] theorem flagCY_pack (s z ac p cy : Bool) : flagCY (pack s z ac p cy) = cy := by
  cases s <;> cases z <;> cases ac <;> cases p <;> cases cy <;> rfl

@[simp] theorem flagsOf_reserved (r : Byte) (ac cy : Bool) : flagsOf r ac cy &&& 0x2A = 0x02 :=
  pack_reserved ..

@[simp] theorem flagCY_flagsOf (r : Byte) (ac cy : Bool) : flagCY (flagsOf r ac cy) = cy := flagCY_pack ..

@[simp] theorem flagAC_flagsOf (r : Byte) (ac cy : Bool) : flagAC (flagsOf r ac cy) = ac := flagAC_pack ..

theorem sign_eq (r : Byte) : sign r = decide (128 ≤ r.toNat) := by
  have h : ∀ r : Byte, sign r = decide (128 ≤ r.toNat) := by decide
  exact h r

theorem zero_eq (r : Byte) : zero r = (r.toNat == 0) := by
  have h : ∀ r : Byte, zero r = (r.toNat == 0) := by decide
  exact h r

theorem parity_eq (r : Byte) : parity r = evenOnes r.toNat := by
  have h : ∀ r : Byte, parity r = evenOnes r.toNat := by decide
  exact h r

/-- The flag engine's byte is the one the spec's formula gives on numbers. -/
theorem flagsOf_eq (r : Byte) (ac cy : Bool) :
    flagsOf r ac cy = BitVec.ofNat 8 (flagNumber r.toNat ac cy) := by
  apply BitVec.eq_of_toNat_eq
  rw [flagsOf, pack_toNat, sign_eq, zero_eq, parity_eq, BitVec.toNat_ofNat, flagNumber]
  rw [Nat.mod_eq_of_lt]
  have := Bool.toNat_lt (decide (128 ≤ r.toNat))
  have := Bool.toNat_lt (r.toNat == 0)
  have := Bool.toNat_lt ac
  have := Bool.toNat_lt (evenOnes r.toNat)
  have := Bool.toNat_lt cy
  omega

theorem addResult_toNat (a b : Byte) (c : Bool) :
    (addResult a b c).toNat = (a.toNat + b.toNat + c.toNat) % 256 := by
  simp [addResult]

theorem subResult_toNat (a b : Byte) (c : Bool) :
    (subResult a b c).toNat = (a.toNat + 256 - b.toNat - c.toNat) % 256 := by
  have ha := a.isLt; have hb := b.isLt; have hc := Bool.toNat_lt c
  simp only [subResult, BitVec.toNat_ofInt]
  omega

/-- INR and DCR compute AC as an addition or subtraction of 1 does (R132). -/
theorem acInc_eq (v : Byte) : acInc v = acAdd v 1 false := by
  have h : ∀ v : Byte, acInc v = acAdd v 1 false := by decide
  exact h v

theorem acDec_eq (v : Byte) : acDec v = acSub v 1 false := by
  have h : ∀ v : Byte, acDec v = acSub v 1 false := by decide
  exact h v

end Sys2Proof.Machine
end

