-- ==== Sys2Proof/Laws/Memory.lean ====
section
/-! SUPPORT. The laws of bytes by address: a read after a write, and that every operation keeps the
canonical form. The read laws need no hypothesis on the form. -/

namespace Sys2Proof.Machine

theorem Memory.read_forget (m : Memory) (a b : Nat) :
    (m.forget a).read b = if b = a then Memory.unlisted else m.read b := by
  induction m with
  | nil => simp [Memory.forget, Memory.read]
  | cons c m ih =>
    obtain ⟨k, v⟩ := c
    simp only [Memory.forget, List.filter_cons, bne_iff_ne, ne_eq] at ih ⊢
    by_cases hka : k = a
    · subst hka
      simp only [not_true_eq_false, ite_false, ih]
      by_cases hb : b = k
      · simp [hb]
      · simp [hb, Memory.read, Ne.symm hb]
    · simp only [hka, not_false_eq_true, ite_true, Memory.read, ih]
      by_cases hkb : k = b
      · subst hkb; simp [hka]
      · simp [hkb]

theorem Memory.read_place (m : Memory) (a b : Nat) (v : Byte) (hba : b ≠ a) :
    (m.place a v).read b = m.read b := by
  induction m with
  | nil => simp [Memory.place, Memory.read, Ne.symm hba]
  | cons c m ih =>
    obtain ⟨k, w⟩ := c
    simp only [Memory.place]
    split
    · simp [Memory.read, Ne.symm hba]
    · simp only [Memory.read, ih]

theorem Memory.read_place_same (m : Memory) (a : Nat) (v : Byte) (h : ∀ c ∈ m, c.1 ≠ a) :
    (m.place a v).read a = v := by
  induction m with
  | nil => simp [Memory.place, Memory.read]
  | cons c m ih =>
    obtain ⟨k, w⟩ := c
    simp only [Memory.place]
    split
    · simp [Memory.read]
    · have hk : k ≠ a := h (k, w) List.mem_cons_self
      simp only [Memory.read, hk, ite_false]
      exact ih fun c hc => h c (List.mem_cons_of_mem _ hc)

theorem Memory.forget_free (m : Memory) (a : Nat) : ∀ c ∈ m.forget a, c.1 ≠ a := by
  intro c hc
  simpa using (List.mem_filter.mp hc).2

/-- Reading an address just written gives the value written. -/
@[simp] theorem Memory.read_write_same (m : Memory) (a : Nat) (v : Byte) : (m.write a v).read a = v := by
  unfold Memory.write
  split
  · rename_i h; simp [Memory.read_forget, h]
  · exact Memory.read_place_same _ _ _ (m.forget_free a)

/-- A write leaves every other address alone. -/
@[simp] theorem Memory.read_write_other (m : Memory) (a b : Nat) (v : Byte) (h : b ≠ a) :
    (m.write a v).read b = m.read b := by
  unfold Memory.write
  split
  · simp [Memory.read_forget, h]
  · rw [Memory.read_place _ _ _ _ h, Memory.read_forget, if_neg h]

theorem Memory.wf_cons (a : Nat) (v : Byte) (m : Memory) :
    Memory.wf ((a, v) :: m) = true ↔ v ≠ Memory.unlisted ∧ (∀ c ∈ m, a < c.1) ∧ m.wf = true := by
  simp [Memory.wf, and_assoc]

theorem Memory.wf_forget (m : Memory) (a : Nat) (h : m.wf = true) : (m.forget a).wf = true := by
  induction m with
  | nil => rfl
  | cons c m ih =>
    obtain ⟨k, v⟩ := c
    obtain ⟨hv, hlt, hm⟩ := (Memory.wf_cons k v m).mp h
    by_cases hka : k = a
    · simpa [Memory.forget, hka] using ih hm
    · have : Memory.forget ((k, v) :: m) a = (k, v) :: Memory.forget m a := by simp [Memory.forget, hka]
      rw [this]
      exact (Memory.wf_cons ..).mpr ⟨hv, fun c hc => hlt c (List.mem_filter.mp hc).1, ih hm⟩

theorem Memory.mem_place (m : Memory) (a : Nat) (v : Byte) (c : Host.Cell) :
    c ∈ m.place a v ↔ c = (a, v) ∨ c ∈ m := by
  induction m with
  | nil => simp [Memory.place]
  | cons d m ih =>
    obtain ⟨k, w⟩ := d
    simp only [Memory.place]
    split
    · simp
    · simp only [List.mem_cons, ih]; tauto

theorem Memory.wf_place (m : Memory) (a : Nat) (v : Byte) (h : m.wf = true) (hv : v ≠ Memory.unlisted)
    (ha : ∀ c ∈ m, c.1 ≠ a) : (m.place a v).wf = true := by
  induction m with
  | nil => simp [Memory.place, Memory.wf, hv]
  | cons d m ih =>
    obtain ⟨k, w⟩ := d
    obtain ⟨hw, hlt, hm⟩ := (Memory.wf_cons k w m).mp h
    have hka : k ≠ a := ha (k, w) List.mem_cons_self
    simp only [Memory.place]
    split
    · rename_i hak
      refine (Memory.wf_cons ..).mpr ⟨hv, ?_, h⟩
      intro c hc
      rcases List.mem_cons.mp hc with rfl | hc
      · exact hak
      · exact hak.trans (hlt c hc)
    · rename_i hak
      refine (Memory.wf_cons ..).mpr ⟨hw, ?_, ih hm fun c hc => ha c (List.mem_cons_of_mem _ hc)⟩
      intro c hc
      rcases (Memory.mem_place ..).mp hc with rfl | hc
      · show k < a; omega
      · exact hlt c hc

/-- A write keeps the canonical form. -/
theorem Memory.wf_write (m : Memory) (a : Nat) (v : Byte) (h : m.wf = true) : (m.write a v).wf = true := by
  unfold Memory.write
  split
  · exact m.wf_forget a h
  · rename_i hv; exact (m.forget a).wf_place a v (m.wf_forget a h) hv (m.forget_free a)

/-- A write lists no address but the one written. -/
theorem Memory.mem_write (m : Memory) (a : Nat) (v : Byte) (c : Host.Cell) (h : c ∈ m.write a v) :
    c = (a, v) ∨ c ∈ m := by
  unfold Memory.write at h
  split at h
  · exact .inr (List.mem_filter.mp h).1
  · rcases (Memory.mem_place ..).mp h with h | h
    · exact .inl h
    · exact .inr (List.mem_filter.mp h).1

theorem Memory.loadFrom_ge (a : Nat) (bytes : List Byte) : ∀ c ∈ Memory.loadFrom a bytes, a ≤ c.1 := by
  induction bytes generalizing a with
  | nil => simp [Memory.loadFrom]
  | cons v bytes ih =>
    intro c hc
    simp only [Memory.loadFrom] at hc
    split at hc
    · exact Nat.le_of_succ_le (ih (a + 1) c hc)
    · rcases List.mem_cons.mp hc with rfl | hc
      · exact Nat.le_refl _
      · exact Nat.le_of_succ_le (ih (a + 1) c hc)

/-- A loaded image is in canonical form. -/
theorem Memory.wf_loadFrom (a : Nat) (bytes : List Byte) : (Memory.loadFrom a bytes).wf = true := by
  induction bytes generalizing a with
  | nil => rfl
  | cons v bytes ih =>
    simp only [Memory.loadFrom]
    split
    · exact ih _
    · rename_i hv
      exact (Memory.wf_cons ..).mpr ⟨hv, fun c hc => Memory.loadFrom_ge (a + 1) bytes c hc, ih _⟩

theorem Memory.wf_load (memSize : Nat) (image : List Byte) : (Memory.load memSize image).wf = true :=
  Memory.wf_loadFrom 0 _

/-- Storing a string of bytes keeps the canonical form. -/
theorem Memory.wf_storeFrom (m : Memory) (memSize a : Nat) (bytes : List Byte) (h : m.wf = true) :
    (m.storeFrom memSize a bytes).wf = true := by
  induction bytes generalizing m a with
  | nil => exact h
  | cons v bytes ih =>
    simp only [Memory.storeFrom]
    split
    · exact ih _ _ (m.wf_write a v h)
    · exact h

end Sys2Proof.Machine
end

