-- ==== Sys2Proof/Laws/State.lean ====
section
/-! SUPPORT. One lemma per field per update of the state: each is true by unfolding, and later proofs
use these and never unfold a record update. -/

namespace Sys2Proof.Machine

/-! ## setReg -/

@[simp] theorem State.setReg_regs (s : State) (r : Reg) (v : Byte) : (s.setReg r v).regs = s.regs.set r v := rfl
@[simp] theorem State.setReg_f (s : State) (r : Reg) (v : Byte) : (s.setReg r v).f = s.f := rfl
@[simp] theorem State.setReg_sp (s : State) (r : Reg) (v : Byte) : (s.setReg r v).sp = s.sp := rfl
@[simp] theorem State.setReg_pc (s : State) (r : Reg) (v : Byte) : (s.setReg r v).pc = s.pc := rfl
@[simp] theorem State.setReg_run (s : State) (r : Reg) (v : Byte) : (s.setReg r v).run = s.run := rfl
@[simp] theorem State.setReg_memTop (s : State) (r : Reg) (v : Byte) : (s.setReg r v).memTop = s.memTop := rfl
@[simp] theorem State.setReg_mem (s : State) (r : Reg) (v : Byte) : (s.setReg r v).mem = s.mem := rfl
@[simp] theorem State.setReg_ports (s : State) (r : Reg) (v : Byte) : (s.setReg r v).ports = s.ports := rfl
@[simp] theorem State.setReg_out (s : State) (r : Reg) (v : Byte) : (s.setReg r v).out = s.out := rfl

/-! ## setF -/

@[simp] theorem State.setF_regs (s : State) (v : Byte) : (s.setF v).regs = s.regs := rfl
@[simp] theorem State.setF_f (s : State) (v : Byte) : (s.setF v).f = v := rfl
@[simp] theorem State.setF_sp (s : State) (v : Byte) : (s.setF v).sp = s.sp := rfl
@[simp] theorem State.setF_pc (s : State) (v : Byte) : (s.setF v).pc = s.pc := rfl
@[simp] theorem State.setF_run (s : State) (v : Byte) : (s.setF v).run = s.run := rfl
@[simp] theorem State.setF_memTop (s : State) (v : Byte) : (s.setF v).memTop = s.memTop := rfl
@[simp] theorem State.setF_mem (s : State) (v : Byte) : (s.setF v).mem = s.mem := rfl
@[simp] theorem State.setF_ports (s : State) (v : Byte) : (s.setF v).ports = s.ports := rfl
@[simp] theorem State.setF_out (s : State) (v : Byte) : (s.setF v).out = s.out := rfl

/-! ## setPc -/

@[simp] theorem State.setPc_regs (s : State) (v : Word) : (s.setPc v).regs = s.regs := rfl
@[simp] theorem State.setPc_f (s : State) (v : Word) : (s.setPc v).f = s.f := rfl
@[simp] theorem State.setPc_sp (s : State) (v : Word) : (s.setPc v).sp = s.sp := rfl
@[simp] theorem State.setPc_pc (s : State) (v : Word) : (s.setPc v).pc = v := rfl
@[simp] theorem State.setPc_run (s : State) (v : Word) : (s.setPc v).run = s.run := rfl
@[simp] theorem State.setPc_memTop (s : State) (v : Word) : (s.setPc v).memTop = s.memTop := rfl
@[simp] theorem State.setPc_mem (s : State) (v : Word) : (s.setPc v).mem = s.mem := rfl
@[simp] theorem State.setPc_ports (s : State) (v : Word) : (s.setPc v).ports = s.ports := rfl
@[simp] theorem State.setPc_out (s : State) (v : Word) : (s.setPc v).out = s.out := rfl

/-! ## setRun -/

@[simp] theorem State.setRun_regs (s : State) (r : RunState) : (s.setRun r).regs = s.regs := rfl
@[simp] theorem State.setRun_f (s : State) (r : RunState) : (s.setRun r).f = s.f := rfl
@[simp] theorem State.setRun_sp (s : State) (r : RunState) : (s.setRun r).sp = s.sp := rfl
@[simp] theorem State.setRun_pc (s : State) (r : RunState) : (s.setRun r).pc = s.pc := rfl
@[simp] theorem State.setRun_run (s : State) (r : RunState) : (s.setRun r).run = r := rfl
@[simp] theorem State.setRun_memTop (s : State) (r : RunState) : (s.setRun r).memTop = s.memTop := rfl
@[simp] theorem State.setRun_mem (s : State) (r : RunState) : (s.setRun r).mem = s.mem := rfl
@[simp] theorem State.setRun_ports (s : State) (r : RunState) : (s.setRun r).ports = s.ports := rfl
@[simp] theorem State.setRun_out (s : State) (r : RunState) : (s.setRun r).out = s.out := rfl

/-! ## setMem -/

@[simp] theorem State.setMem_regs (s : State) (m : Memory) : (s.setMem m).regs = s.regs := rfl
@[simp] theorem State.setMem_f (s : State) (m : Memory) : (s.setMem m).f = s.f := rfl
@[simp] theorem State.setMem_sp (s : State) (m : Memory) : (s.setMem m).sp = s.sp := rfl
@[simp] theorem State.setMem_pc (s : State) (m : Memory) : (s.setMem m).pc = s.pc := rfl
@[simp] theorem State.setMem_run (s : State) (m : Memory) : (s.setMem m).run = s.run := rfl
@[simp] theorem State.setMem_memTop (s : State) (m : Memory) : (s.setMem m).memTop = s.memTop := rfl
@[simp] theorem State.setMem_mem (s : State) (m : Memory) : (s.setMem m).mem = m := rfl
@[simp] theorem State.setMem_ports (s : State) (m : Memory) : (s.setMem m).ports = s.ports := rfl
@[simp] theorem State.setMem_out (s : State) (m : Memory) : (s.setMem m).out = s.out := rfl

/-! ## portWrite -/

@[simp] theorem State.portWrite_regs (s : State) (p v : Byte) : (s.portWrite p v).regs = s.regs := rfl
@[simp] theorem State.portWrite_f (s : State) (p v : Byte) : (s.portWrite p v).f = s.f := rfl
@[simp] theorem State.portWrite_sp (s : State) (p v : Byte) : (s.portWrite p v).sp = s.sp := rfl
@[simp] theorem State.portWrite_pc (s : State) (p v : Byte) : (s.portWrite p v).pc = s.pc := rfl
@[simp] theorem State.portWrite_run (s : State) (p v : Byte) : (s.portWrite p v).run = s.run := rfl
@[simp] theorem State.portWrite_memTop (s : State) (p v : Byte) : (s.portWrite p v).memTop = s.memTop := rfl
@[simp] theorem State.portWrite_mem (s : State) (p v : Byte) : (s.portWrite p v).mem = s.mem := rfl
@[simp] theorem State.portWrite_ports (s : State) (p v : Byte) : (s.portWrite p v).ports = s.ports.write p.toNat v := rfl
@[simp] theorem State.portWrite_out (s : State) (p v : Byte) : (s.portWrite p v).out = s.out := rfl

/-! ## emitOpt -/

@[simp] theorem State.emitOpt_regs (s : State) (e : Option Event) : (s.emitOpt e).regs = s.regs := rfl
@[simp] theorem State.emitOpt_f (s : State) (e : Option Event) : (s.emitOpt e).f = s.f := rfl
@[simp] theorem State.emitOpt_sp (s : State) (e : Option Event) : (s.emitOpt e).sp = s.sp := rfl
@[simp] theorem State.emitOpt_pc (s : State) (e : Option Event) : (s.emitOpt e).pc = s.pc := rfl
@[simp] theorem State.emitOpt_run (s : State) (e : Option Event) : (s.emitOpt e).run = s.run := rfl
@[simp] theorem State.emitOpt_memTop (s : State) (e : Option Event) : (s.emitOpt e).memTop = s.memTop := rfl
@[simp] theorem State.emitOpt_mem (s : State) (e : Option Event) : (s.emitOpt e).mem = s.mem := rfl
@[simp] theorem State.emitOpt_ports (s : State) (e : Option Event) : (s.emitOpt e).ports = s.ports := rfl
@[simp] theorem State.emitOpt_out (s : State) (e : Option Event) : (s.emitOpt e).out = s.out ++ e.toList := rfl

/-! ## raiseFault -/

@[simp] theorem State.raiseFault_regs (s : State) (c : FaultReason) (op : Byte) : (s.raiseFault c op).regs = s.regs := rfl
@[simp] theorem State.raiseFault_f (s : State) (c : FaultReason) (op : Byte) : (s.raiseFault c op).f = s.f := rfl
@[simp] theorem State.raiseFault_sp (s : State) (c : FaultReason) (op : Byte) : (s.raiseFault c op).sp = s.sp := rfl
@[simp] theorem State.raiseFault_pc (s : State) (c : FaultReason) (op : Byte) : (s.raiseFault c op).pc = s.pc := rfl
@[simp] theorem State.raiseFault_run (s : State) (c : FaultReason) (op : Byte) : (s.raiseFault c op).run = .fault c op s.pc := rfl
@[simp] theorem State.raiseFault_memTop (s : State) (c : FaultReason) (op : Byte) : (s.raiseFault c op).memTop = s.memTop := rfl
@[simp] theorem State.raiseFault_mem (s : State) (c : FaultReason) (op : Byte) : (s.raiseFault c op).mem = s.mem := rfl
@[simp] theorem State.raiseFault_ports (s : State) (c : FaultReason) (op : Byte) : (s.raiseFault c op).ports = s.ports := rfl
@[simp] theorem State.raiseFault_out (s : State) (c : FaultReason) (op : Byte) : (s.raiseFault c op).out = s.out := rfl

/-! ## wrapPc -/

@[simp] theorem State.wrapPc_regs (s : State) : s.wrapPc.regs = s.regs := rfl
@[simp] theorem State.wrapPc_f (s : State) : s.wrapPc.f = s.f := rfl
@[simp] theorem State.wrapPc_sp (s : State) : s.wrapPc.sp = s.sp := rfl
@[simp] theorem State.wrapPc_pc (s : State) : s.wrapPc.pc = s.fetchAddr := rfl
@[simp] theorem State.wrapPc_run (s : State) : s.wrapPc.run = s.run := rfl
@[simp] theorem State.wrapPc_memTop (s : State) : s.wrapPc.memTop = s.memTop := rfl
@[simp] theorem State.wrapPc_mem (s : State) : s.wrapPc.mem = s.mem := rfl
@[simp] theorem State.wrapPc_ports (s : State) : s.wrapPc.ports = s.ports := rfl
@[simp] theorem State.wrapPc_out (s : State) : s.wrapPc.out = s.out := rfl

/-! ## advancePc -/

@[simp] theorem State.advancePc_regs (s : State) (w : Nat) : (s.advancePc w).regs = s.regs := rfl
@[simp] theorem State.advancePc_f (s : State) (w : Nat) : (s.advancePc w).f = s.f := rfl
@[simp] theorem State.advancePc_sp (s : State) (w : Nat) : (s.advancePc w).sp = s.sp := rfl
@[simp] theorem State.advancePc_pc (s : State) (w : Nat) : (s.advancePc w).pc = BitVec.ofNat 16 (s.pc.toNat + w) := rfl
@[simp] theorem State.advancePc_run (s : State) (w : Nat) : (s.advancePc w).run = s.run := rfl
@[simp] theorem State.advancePc_memTop (s : State) (w : Nat) : (s.advancePc w).memTop = s.memTop := rfl
@[simp] theorem State.advancePc_mem (s : State) (w : Nat) : (s.advancePc w).mem = s.mem := rfl
@[simp] theorem State.advancePc_ports (s : State) (w : Nat) : (s.advancePc w).ports = s.ports := rfl
@[simp] theorem State.advancePc_out (s : State) (w : Nat) : (s.advancePc w).out = s.out := rfl

/-! ## Queries of an updated state -/

@[simp] theorem State.getReg_eq (s : State) (r : Reg) : s.getReg r = s.regs.get r := rfl

@[simp] theorem State.setReg_memSize (s : State) (r : Reg) (v : Byte) : (s.setReg r v).memSize = s.memSize := rfl
@[simp] theorem State.setF_memSize (s : State) (v : Byte) : (s.setF v).memSize = s.memSize := rfl
@[simp] theorem State.setPc_memSize (s : State) (v : Word) : (s.setPc v).memSize = s.memSize := rfl
@[simp] theorem State.setRun_memSize (s : State) (r : RunState) : (s.setRun r).memSize = s.memSize := rfl
@[simp] theorem State.setMem_memSize (s : State) (m : Memory) : (s.setMem m).memSize = s.memSize := rfl
@[simp] theorem State.wrapPc_memSize (s : State) : s.wrapPc.memSize = s.memSize := rfl
@[simp] theorem State.advancePc_memSize (s : State) (w : Nat) : (s.advancePc w).memSize = s.memSize := rfl
@[simp] theorem State.raiseFault_memSize (s : State) (c : FaultReason) (op : Byte) :
    (s.raiseFault c op).memSize = s.memSize := rfl

theorem State.memSize_pos (s : State) : 0 < s.memSize := Nat.succ_pos _

theorem State.memSize_le (s : State) : s.memSize ≤ 65536 := s.memTop.isLt

/-! ## The register file -/

@[simp] theorem Regs.get_b (r : Regs) : r.get .b = r.b := rfl
@[simp] theorem Regs.get_c (r : Regs) : r.get .c = r.c := rfl
@[simp] theorem Regs.get_d (r : Regs) : r.get .d = r.d := rfl
@[simp] theorem Regs.get_e (r : Regs) : r.get .e = r.e := rfl
@[simp] theorem Regs.get_h (r : Regs) : r.get .h = r.h := rfl
@[simp] theorem Regs.get_l (r : Regs) : r.get .l = r.l := rfl
@[simp] theorem Regs.get_m (r : Regs) : r.get .m = r.m := rfl
@[simp] theorem Regs.get_a (r : Regs) : r.get .a = r.a := rfl

@[simp] theorem Regs.get_set_same (r : Regs) (i : Reg) (v : Byte) : (r.set i v).get i = v := by
  cases i <;> rfl

@[simp] theorem Regs.get_set_other (r : Regs) (i j : Reg) (v : Byte) (h : j ≠ i) :
    (r.set i v).get j = r.get j := by
  cases i <;> cases j <;> first | rfl | exact absurd rfl h

theorem Regs.ext_get (r r' : Regs) (h : ∀ i, r.get i = r'.get i) : r = r' := by
  cases r; cases r'
  have hb := h .b; have hc := h .c; have hd := h .d; have he := h .e
  have hh := h .h; have hl := h .l; have hm := h .m; have ha := h .a
  simp only [Regs.get] at hb hc hd he hh hl hm ha
  simp only [hb, hc, hd, he, hh, hl, hm, ha]

theorem Regs.set_get_self (r : Regs) (i : Reg) : r.set i (r.get i) = r := by
  cases i <;> rfl

/-- A pair view as a number: 256 times the high half plus the low half (R32). -/
theorem pairOf_toNat (high low : Byte) : (pairOf high low).toNat = 256 * high.toNat + low.toNat := by
  have h := low.isLt
  simp only [pairOf, BitVec.toNat_append, Nat.shiftLeft_eq]
  rw [Nat.mul_comm, ← Nat.two_pow_add_eq_or_of_lt h]

/-! ## The pc -/

/-- A step fetches inside memory (R51, R102). -/
theorem State.fetchAddr_lt (s : State) : s.fetchAddr.toNat < s.memSize := by
  unfold State.fetchAddr
  split
  · exact s.memSize_pos
  · omega

/-- A pc inside memory is not wrapped. -/
theorem State.fetchAddr_inside (s : State) (h : s.pc.toNat < s.memSize) : s.fetchAddr = s.pc :=
  if_neg (Nat.not_le.mpr h)

/-- A pc at or beyond MEM_SIZE is wrapped to 0, not reduced (R102). -/
theorem State.fetchAddr_beyond (s : State) (h : s.memSize ≤ s.pc.toNat) : s.fetchAddr = 0 := if_pos h

/-- The wrap changes nothing of a state whose pc is inside memory. -/
theorem State.wrapPc_inside (s : State) (h : s.pc.toNat < s.memSize) : s.wrapPc = s := by
  cases s; simp only [State.wrapPc, State.setPc, State.fetchAddr_inside _ h]

/-- Wrapping twice is wrapping once. -/
theorem State.fetchAddr_wrapPc (s : State) : s.wrapPc.fetchAddr = s.fetchAddr :=
  s.wrapPc.fetchAddr_inside (by simpa using s.fetchAddr_lt)

end Sys2Proof.Machine
end

