-- ==== Sys2Proof/Laws/Ops.lean ====
section
/-! SUPPORT. What each shared operation can do: the registers it writes, that it writes flags only with
the reserved bits at their constants, and that it touches nothing else. -/

namespace Sys2Proof.Machine

/-- An operation on registers and flags: it keeps everything else, field by field. -/
structure KeepsRest (s t : State) : Prop where
  sp : t.sp = s.sp
  pc : t.pc = s.pc
  run : t.run = s.run
  memTop : t.memTop = s.memTop
  mem : t.mem = s.mem
  ports : t.ports = s.ports
  out : t.out = s.out

theorem KeepsRest.same {s t : State} (h : KeepsRest s t) : s.SameButRegsAndFlags t :=
  ⟨h.sp, h.pc, h.run, h.memTop, h.out, fun _ => by rw [h.mem], fun _ => by rw [h.ports]⟩

theorem KeepsRest.refl (s : State) : KeepsRest s s := ⟨rfl, rfl, rfl, rfl, rfl, rfl, rfl⟩

theorem setReg_keeps (s : State) (r : Reg) (v : Byte) : KeepsRest s (s.setReg r v) :=
  ⟨rfl, rfl, rfl, rfl, rfl, rfl, rfl⟩

theorem moveReg_keeps (dst r : Reg) (s : State) : KeepsRest s (moveReg dst r s) :=
  ⟨rfl, rfl, rfl, rfl, rfl, rfl, rfl⟩

theorem addAcc_keeps (b : Byte) (c : Bool) (s : State) : KeepsRest s (addAcc b c s) :=
  ⟨rfl, rfl, rfl, rfl, rfl, rfl, rfl⟩

theorem subAcc_keeps (b : Byte) (c : Bool) (s : State) : KeepsRest s (subAcc b c s) :=
  ⟨rfl, rfl, rfl, rfl, rfl, rfl, rfl⟩

theorem cmpAcc_keeps (b : Byte) (s : State) : KeepsRest s (cmpAcc b s) :=
  ⟨rfl, rfl, rfl, rfl, rfl, rfl, rfl⟩

theorem andAcc_keeps (b : Byte) (s : State) : KeepsRest s (andAcc b s) :=
  ⟨rfl, rfl, rfl, rfl, rfl, rfl, rfl⟩

theorem orAcc_keeps (b : Byte) (s : State) : KeepsRest s (orAcc b s) :=
  ⟨rfl, rfl, rfl, rfl, rfl, rfl, rfl⟩

theorem xorAcc_keeps (b : Byte) (s : State) : KeepsRest s (xorAcc b s) :=
  ⟨rfl, rfl, rfl, rfl, rfl, rfl, rfl⟩

theorem incReg_keeps (dst : Reg) (s : State) : KeepsRest s (incReg dst s) :=
  ⟨rfl, rfl, rfl, rfl, rfl, rfl, rfl⟩

theorem decReg_keeps (dst : Reg) (s : State) : KeepsRest s (decReg dst s) :=
  ⟨rfl, rfl, rfl, rfl, rfl, rfl, rfl⟩

/-! ## The new registers and flags -/

@[simp] theorem setReg_regs_get_other (s : State) (dst r : Reg) (v : Byte) (h : r ≠ dst) :
    (s.setReg dst v).regs.get r = s.regs.get r := Regs.get_set_other _ _ _ _ h

theorem moveReg_regs (dst r : Reg) (s : State) : (moveReg dst r s).regs = s.regs.set dst (s.regs.get r) := rfl

theorem moveReg_f (dst r : Reg) (s : State) : (moveReg dst r s).f = s.f := rfl

theorem addAcc_regs (b : Byte) (c : Bool) (s : State) :
    (addAcc b c s).regs = s.regs.set .a (addResult s.regs.a b c) := rfl

theorem addAcc_f (b : Byte) (c : Bool) (s : State) :
    (addAcc b c s).f = flagsOf (addResult s.regs.a b c) (acAdd s.regs.a b c) (cyAdd s.regs.a b c) := rfl

theorem subAcc_regs (b : Byte) (c : Bool) (s : State) :
    (subAcc b c s).regs = s.regs.set .a (subResult s.regs.a b c) := rfl

theorem subAcc_f (b : Byte) (c : Bool) (s : State) :
    (subAcc b c s).f = flagsOf (subResult s.regs.a b c) (acSub s.regs.a b c) (cySub s.regs.a b c) := rfl

theorem cmpAcc_regs (b : Byte) (s : State) : (cmpAcc b s).regs = s.regs := rfl

/-- A compare writes the flags of the subtraction without borrow (R190). -/
theorem cmpAcc_f (b : Byte) (s : State) : (cmpAcc b s).f = (subAcc b false s).f := rfl

theorem andAcc_regs (b : Byte) (s : State) : (andAcc b s).regs = s.regs.set .a (s.regs.a &&& b) := rfl

theorem andAcc_f (b : Byte) (s : State) : (andAcc b s).f = flagsOf (s.regs.a &&& b) true false := rfl

theorem orAcc_regs (b : Byte) (s : State) : (orAcc b s).regs = s.regs.set .a (s.regs.a ||| b) := rfl

theorem orAcc_f (b : Byte) (s : State) : (orAcc b s).f = flagsOf (s.regs.a ||| b) false false := rfl

theorem xorAcc_regs (b : Byte) (s : State) : (xorAcc b s).regs = s.regs.set .a (s.regs.a ^^^ b) := rfl

theorem xorAcc_f (b : Byte) (s : State) : (xorAcc b s).f = flagsOf (s.regs.a ^^^ b) false false := rfl

theorem incReg_regs (dst : Reg) (s : State) :
    (incReg dst s).regs = s.regs.set dst (addResult (s.regs.get dst) 1 false) := rfl

theorem incReg_f (dst : Reg) (s : State) :
    (incReg dst s).f = flagsOf (addResult (s.regs.get dst) 1 false) (acInc (s.regs.get dst)) (flagCY s.f) := rfl

theorem decReg_regs (dst : Reg) (s : State) :
    (decReg dst s).regs = s.regs.set dst (subResult (s.regs.get dst) 1 false) := rfl

theorem decReg_f (dst : Reg) (s : State) :
    (decReg dst s).f = flagsOf (subResult (s.regs.get dst) 1 false) (acDec (s.regs.get dst)) (flagCY s.f) := rfl

/-! ## OUT -/

/-- A port holds what was last written to it, and every other port is left alone (R39, R56). -/
theorem portWrite_read (s : State) (p v : Byte) (q : Nat) :
    (s.portWrite p v).ports.read q = if q = p.toNat then v else s.ports.read q := by
  split
  · rename_i h; simp [State.portWrite, h]
  · rename_i h; simp [State.portWrite, h]

/-- A port write has at most one event (R204). -/
theorem portEvent_toList_length (p : Byte) (s : State) : (portEvent p s).toList.length ≤ 1 := by
  cases portEvent p s <;> simp

/-- Only ports 0 to 3 have an event (R204). -/
theorem portEvent_none (p : Byte) (s : State) (h : 4 ≤ p.toNat) : portEvent p s = none := by
  have h0 : p ≠ 0 := by rintro rfl; simp at h
  have h1 : p ≠ 1 := by rintro rfl; simp at h
  have h2 : p ≠ 2 := by rintro rfl; simp at h
  have h3 : p ≠ 3 := by rintro rfl; simp at h
  rw [portEvent, if_neg h0, if_neg h1, if_neg h2, if_neg h3]

end Sys2Proof.Machine
end

