-- ==== Sys2Proof/Laws/Dispatch.lean ====
section
/-! SUPPORT. `exec` by family: every instruction is a row of one of nine families, and the rows of a
family run one shared operation, whatever their operands. -/

namespace Sys2Proof.Machine

/-- The nine families of the opcode table (R2, R72 to R77). -/
theorem instr_by_family (i : Instr) :
    i = .nop ∨ i = .hlt ∨ (∃ p, i = .out p) ∨ (∃ dst src, Instr.mov dst src = some i) ∨
    (∃ dst n, i = Instr.mvi dst n) ∨ (∃ dst, i = Instr.inr dst) ∨ (∃ dst, i = Instr.dcr dst) ∨
    (∃ op src, i = Instr.alu op (.reg src)) ∨ (∃ op n, i = Instr.alu op (.imm n)) := by
  cases i with
  | nop => exact .inl rfl
  | hlt => exact .inr (.inl rfl)
  | out p => exact .inr (.inr (.inl ⟨p, rfl⟩))
  | movBB => exact .inr (.inr (.inr (.inl ⟨.b, .b, rfl⟩)))
  | movBC => exact .inr (.inr (.inr (.inl ⟨.b, .c, rfl⟩)))
  | movBD => exact .inr (.inr (.inr (.inl ⟨.b, .d, rfl⟩)))
  | movBE => exact .inr (.inr (.inr (.inl ⟨.b, .e, rfl⟩)))
  | movBH => exact .inr (.inr (.inr (.inl ⟨.b, .h, rfl⟩)))
  | movBL => exact .inr (.inr (.inr (.inl ⟨.b, .l, rfl⟩)))
  | movBM => exact .inr (.inr (.inr (.inl ⟨.b, .m, rfl⟩)))
  | movBA => exact .inr (.inr (.inr (.inl ⟨.b, .a, rfl⟩)))
  | movCB => exact .inr (.inr (.inr (.inl ⟨.c, .b, rfl⟩)))
  | movCC => exact .inr (.inr (.inr (.inl ⟨.c, .c, rfl⟩)))
  | movCD => exact .inr (.inr (.inr (.inl ⟨.c, .d, rfl⟩)))
  | movCE => exact .inr (.inr (.inr (.inl ⟨.c, .e, rfl⟩)))
  | movCH => exact .inr (.inr (.inr (.inl ⟨.c, .h, rfl⟩)))
  | movCL => exact .inr (.inr (.inr (.inl ⟨.c, .l, rfl⟩)))
  | movCM => exact .inr (.inr (.inr (.inl ⟨.c, .m, rfl⟩)))
  | movCA => exact .inr (.inr (.inr (.inl ⟨.c, .a, rfl⟩)))
  | movDB => exact .inr (.inr (.inr (.inl ⟨.d, .b, rfl⟩)))
  | movDC => exact .inr (.inr (.inr (.inl ⟨.d, .c, rfl⟩)))
  | movDD => exact .inr (.inr (.inr (.inl ⟨.d, .d, rfl⟩)))
  | movDE => exact .inr (.inr (.inr (.inl ⟨.d, .e, rfl⟩)))
  | movDH => exact .inr (.inr (.inr (.inl ⟨.d, .h, rfl⟩)))
  | movDL => exact .inr (.inr (.inr (.inl ⟨.d, .l, rfl⟩)))
  | movDM => exact .inr (.inr (.inr (.inl ⟨.d, .m, rfl⟩)))
  | movDA => exact .inr (.inr (.inr (.inl ⟨.d, .a, rfl⟩)))
  | movEB => exact .inr (.inr (.inr (.inl ⟨.e, .b, rfl⟩)))
  | movEC => exact .inr (.inr (.inr (.inl ⟨.e, .c, rfl⟩)))
  | movED => exact .inr (.inr (.inr (.inl ⟨.e, .d, rfl⟩)))
  | movEE => exact .inr (.inr (.inr (.inl ⟨.e, .e, rfl⟩)))
  | movEH => exact .inr (.inr (.inr (.inl ⟨.e, .h, rfl⟩)))
  | movEL => exact .inr (.inr (.inr (.inl ⟨.e, .l, rfl⟩)))
  | movEM => exact .inr (.inr (.inr (.inl ⟨.e, .m, rfl⟩)))
  | movEA => exact .inr (.inr (.inr (.inl ⟨.e, .a, rfl⟩)))
  | movHB => exact .inr (.inr (.inr (.inl ⟨.h, .b, rfl⟩)))
  | movHC => exact .inr (.inr (.inr (.inl ⟨.h, .c, rfl⟩)))
  | movHD => exact .inr (.inr (.inr (.inl ⟨.h, .d, rfl⟩)))
  | movHE => exact .inr (.inr (.inr (.inl ⟨.h, .e, rfl⟩)))
  | movHH => exact .inr (.inr (.inr (.inl ⟨.h, .h, rfl⟩)))
  | movHL => exact .inr (.inr (.inr (.inl ⟨.h, .l, rfl⟩)))
  | movHM => exact .inr (.inr (.inr (.inl ⟨.h, .m, rfl⟩)))
  | movHA => exact .inr (.inr (.inr (.inl ⟨.h, .a, rfl⟩)))
  | movLB => exact .inr (.inr (.inr (.inl ⟨.l, .b, rfl⟩)))
  | movLC => exact .inr (.inr (.inr (.inl ⟨.l, .c, rfl⟩)))
  | movLD => exact .inr (.inr (.inr (.inl ⟨.l, .d, rfl⟩)))
  | movLE => exact .inr (.inr (.inr (.inl ⟨.l, .e, rfl⟩)))
  | movLH => exact .inr (.inr (.inr (.inl ⟨.l, .h, rfl⟩)))
  | movLL => exact .inr (.inr (.inr (.inl ⟨.l, .l, rfl⟩)))
  | movLM => exact .inr (.inr (.inr (.inl ⟨.l, .m, rfl⟩)))
  | movLA => exact .inr (.inr (.inr (.inl ⟨.l, .a, rfl⟩)))
  | movMB => exact .inr (.inr (.inr (.inl ⟨.m, .b, rfl⟩)))
  | movMC => exact .inr (.inr (.inr (.inl ⟨.m, .c, rfl⟩)))
  | movMD => exact .inr (.inr (.inr (.inl ⟨.m, .d, rfl⟩)))
  | movME => exact .inr (.inr (.inr (.inl ⟨.m, .e, rfl⟩)))
  | movMH => exact .inr (.inr (.inr (.inl ⟨.m, .h, rfl⟩)))
  | movML => exact .inr (.inr (.inr (.inl ⟨.m, .l, rfl⟩)))
  | movMA => exact .inr (.inr (.inr (.inl ⟨.m, .a, rfl⟩)))
  | movAB => exact .inr (.inr (.inr (.inl ⟨.a, .b, rfl⟩)))
  | movAC => exact .inr (.inr (.inr (.inl ⟨.a, .c, rfl⟩)))
  | movAD => exact .inr (.inr (.inr (.inl ⟨.a, .d, rfl⟩)))
  | movAE => exact .inr (.inr (.inr (.inl ⟨.a, .e, rfl⟩)))
  | movAH => exact .inr (.inr (.inr (.inl ⟨.a, .h, rfl⟩)))
  | movAL => exact .inr (.inr (.inr (.inl ⟨.a, .l, rfl⟩)))
  | movAM => exact .inr (.inr (.inr (.inl ⟨.a, .m, rfl⟩)))
  | movAA => exact .inr (.inr (.inr (.inl ⟨.a, .a, rfl⟩)))
  | mviB n => exact .inr (.inr (.inr (.inr (.inl ⟨.b, n, rfl⟩))))
  | mviC n => exact .inr (.inr (.inr (.inr (.inl ⟨.c, n, rfl⟩))))
  | mviD n => exact .inr (.inr (.inr (.inr (.inl ⟨.d, n, rfl⟩))))
  | mviE n => exact .inr (.inr (.inr (.inr (.inl ⟨.e, n, rfl⟩))))
  | mviH n => exact .inr (.inr (.inr (.inr (.inl ⟨.h, n, rfl⟩))))
  | mviL n => exact .inr (.inr (.inr (.inr (.inl ⟨.l, n, rfl⟩))))
  | mviM n => exact .inr (.inr (.inr (.inr (.inl ⟨.m, n, rfl⟩))))
  | mviA n => exact .inr (.inr (.inr (.inr (.inl ⟨.a, n, rfl⟩))))
  | inrB => exact .inr (.inr (.inr (.inr (.inr (.inl ⟨.b, rfl⟩)))))
  | inrC => exact .inr (.inr (.inr (.inr (.inr (.inl ⟨.c, rfl⟩)))))
  | inrD => exact .inr (.inr (.inr (.inr (.inr (.inl ⟨.d, rfl⟩)))))
  | inrE => exact .inr (.inr (.inr (.inr (.inr (.inl ⟨.e, rfl⟩)))))
  | inrH => exact .inr (.inr (.inr (.inr (.inr (.inl ⟨.h, rfl⟩)))))
  | inrL => exact .inr (.inr (.inr (.inr (.inr (.inl ⟨.l, rfl⟩)))))
  | inrM => exact .inr (.inr (.inr (.inr (.inr (.inl ⟨.m, rfl⟩)))))
  | inrA => exact .inr (.inr (.inr (.inr (.inr (.inl ⟨.a, rfl⟩)))))
  | dcrB => exact .inr (.inr (.inr (.inr (.inr (.inr (.inl ⟨.b, rfl⟩))))))
  | dcrC => exact .inr (.inr (.inr (.inr (.inr (.inr (.inl ⟨.c, rfl⟩))))))
  | dcrD => exact .inr (.inr (.inr (.inr (.inr (.inr (.inl ⟨.d, rfl⟩))))))
  | dcrE => exact .inr (.inr (.inr (.inr (.inr (.inr (.inl ⟨.e, rfl⟩))))))
  | dcrH => exact .inr (.inr (.inr (.inr (.inr (.inr (.inl ⟨.h, rfl⟩))))))
  | dcrL => exact .inr (.inr (.inr (.inr (.inr (.inr (.inl ⟨.l, rfl⟩))))))
  | dcrM => exact .inr (.inr (.inr (.inr (.inr (.inr (.inl ⟨.m, rfl⟩))))))
  | dcrA => exact .inr (.inr (.inr (.inr (.inr (.inr (.inl ⟨.a, rfl⟩))))))
  | addB => exact .inr (.inr (.inr (.inr (.inr (.inr (.inr (.inl ⟨.add, .b, rfl⟩)))))))
  | addC => exact .inr (.inr (.inr (.inr (.inr (.inr (.inr (.inl ⟨.add, .c, rfl⟩)))))))
  | addD => exact .inr (.inr (.inr (.inr (.inr (.inr (.inr (.inl ⟨.add, .d, rfl⟩)))))))
  | addE => exact .inr (.inr (.inr (.inr (.inr (.inr (.inr (.inl ⟨.add, .e, rfl⟩)))))))
  | addH => exact .inr (.inr (.inr (.inr (.inr (.inr (.inr (.inl ⟨.add, .h, rfl⟩)))))))
  | addL => exact .inr (.inr (.inr (.inr (.inr (.inr (.inr (.inl ⟨.add, .l, rfl⟩)))))))
  | addM => exact .inr (.inr (.inr (.inr (.inr (.inr (.inr (.inl ⟨.add, .m, rfl⟩)))))))
  | addA => exact .inr (.inr (.inr (.inr (.inr (.inr (.inr (.inl ⟨.add, .a, rfl⟩)))))))
  | adcB => exact .inr (.inr (.inr (.inr (.inr (.inr (.inr (.inl ⟨.adc, .b, rfl⟩)))))))
  | adcC => exact .inr (.inr (.inr (.inr (.inr (.inr (.inr (.inl ⟨.adc, .c, rfl⟩)))))))
  | adcD => exact .inr (.inr (.inr (.inr (.inr (.inr (.inr (.inl ⟨.adc, .d, rfl⟩)))))))
  | adcE => exact .inr (.inr (.inr (.inr (.inr (.inr (.inr (.inl ⟨.adc, .e, rfl⟩)))))))
  | adcH => exact .inr (.inr (.inr (.inr (.inr (.inr (.inr (.inl ⟨.adc, .h, rfl⟩)))))))
  | adcL => exact .inr (.inr (.inr (.inr (.inr (.inr (.inr (.inl ⟨.adc, .l, rfl⟩)))))))
  | adcM => exact .inr (.inr (.inr (.inr (.inr (.inr (.inr (.inl ⟨.adc, .m, rfl⟩)))))))
  | adcA => exact .inr (.inr (.inr (.inr (.inr (.inr (.inr (.inl ⟨.adc, .a, rfl⟩)))))))
  | subB => exact .inr (.inr (.inr (.inr (.inr (.inr (.inr (.inl ⟨.sub, .b, rfl⟩)))))))
  | subC => exact .inr (.inr (.inr (.inr (.inr (.inr (.inr (.inl ⟨.sub, .c, rfl⟩)))))))
  | subD => exact .inr (.inr (.inr (.inr (.inr (.inr (.inr (.inl ⟨.sub, .d, rfl⟩)))))))
  | subE => exact .inr (.inr (.inr (.inr (.inr (.inr (.inr (.inl ⟨.sub, .e, rfl⟩)))))))
  | subH => exact .inr (.inr (.inr (.inr (.inr (.inr (.inr (.inl ⟨.sub, .h, rfl⟩)))))))
  | subL => exact .inr (.inr (.inr (.inr (.inr (.inr (.inr (.inl ⟨.sub, .l, rfl⟩)))))))
  | subM => exact .inr (.inr (.inr (.inr (.inr (.inr (.inr (.inl ⟨.sub, .m, rfl⟩)))))))
  | subA => exact .inr (.inr (.inr (.inr (.inr (.inr (.inr (.inl ⟨.sub, .a, rfl⟩)))))))
  | sbbB => exact .inr (.inr (.inr (.inr (.inr (.inr (.inr (.inl ⟨.sbb, .b, rfl⟩)))))))
  | sbbC => exact .inr (.inr (.inr (.inr (.inr (.inr (.inr (.inl ⟨.sbb, .c, rfl⟩)))))))
  | sbbD => exact .inr (.inr (.inr (.inr (.inr (.inr (.inr (.inl ⟨.sbb, .d, rfl⟩)))))))
  | sbbE => exact .inr (.inr (.inr (.inr (.inr (.inr (.inr (.inl ⟨.sbb, .e, rfl⟩)))))))
  | sbbH => exact .inr (.inr (.inr (.inr (.inr (.inr (.inr (.inl ⟨.sbb, .h, rfl⟩)))))))
  | sbbL => exact .inr (.inr (.inr (.inr (.inr (.inr (.inr (.inl ⟨.sbb, .l, rfl⟩)))))))
  | sbbM => exact .inr (.inr (.inr (.inr (.inr (.inr (.inr (.inl ⟨.sbb, .m, rfl⟩)))))))
  | sbbA => exact .inr (.inr (.inr (.inr (.inr (.inr (.inr (.inl ⟨.sbb, .a, rfl⟩)))))))
  | anaB => exact .inr (.inr (.inr (.inr (.inr (.inr (.inr (.inl ⟨.ana, .b, rfl⟩)))))))
  | anaC => exact .inr (.inr (.inr (.inr (.inr (.inr (.inr (.inl ⟨.ana, .c, rfl⟩)))))))
  | anaD => exact .inr (.inr (.inr (.inr (.inr (.inr (.inr (.inl ⟨.ana, .d, rfl⟩)))))))
  | anaE => exact .inr (.inr (.inr (.inr (.inr (.inr (.inr (.inl ⟨.ana, .e, rfl⟩)))))))
  | anaH => exact .inr (.inr (.inr (.inr (.inr (.inr (.inr (.inl ⟨.ana, .h, rfl⟩)))))))
  | anaL => exact .inr (.inr (.inr (.inr (.inr (.inr (.inr (.inl ⟨.ana, .l, rfl⟩)))))))
  | anaM => exact .inr (.inr (.inr (.inr (.inr (.inr (.inr (.inl ⟨.ana, .m, rfl⟩)))))))
  | anaA => exact .inr (.inr (.inr (.inr (.inr (.inr (.inr (.inl ⟨.ana, .a, rfl⟩)))))))
  | xraB => exact .inr (.inr (.inr (.inr (.inr (.inr (.inr (.inl ⟨.xra, .b, rfl⟩)))))))
  | xraC => exact .inr (.inr (.inr (.inr (.inr (.inr (.inr (.inl ⟨.xra, .c, rfl⟩)))))))
  | xraD => exact .inr (.inr (.inr (.inr (.inr (.inr (.inr (.inl ⟨.xra, .d, rfl⟩)))))))
  | xraE => exact .inr (.inr (.inr (.inr (.inr (.inr (.inr (.inl ⟨.xra, .e, rfl⟩)))))))
  | xraH => exact .inr (.inr (.inr (.inr (.inr (.inr (.inr (.inl ⟨.xra, .h, rfl⟩)))))))
  | xraL => exact .inr (.inr (.inr (.inr (.inr (.inr (.inr (.inl ⟨.xra, .l, rfl⟩)))))))
  | xraM => exact .inr (.inr (.inr (.inr (.inr (.inr (.inr (.inl ⟨.xra, .m, rfl⟩)))))))
  | xraA => exact .inr (.inr (.inr (.inr (.inr (.inr (.inr (.inl ⟨.xra, .a, rfl⟩)))))))
  | oraB => exact .inr (.inr (.inr (.inr (.inr (.inr (.inr (.inl ⟨.ora, .b, rfl⟩)))))))
  | oraC => exact .inr (.inr (.inr (.inr (.inr (.inr (.inr (.inl ⟨.ora, .c, rfl⟩)))))))
  | oraD => exact .inr (.inr (.inr (.inr (.inr (.inr (.inr (.inl ⟨.ora, .d, rfl⟩)))))))
  | oraE => exact .inr (.inr (.inr (.inr (.inr (.inr (.inr (.inl ⟨.ora, .e, rfl⟩)))))))
  | oraH => exact .inr (.inr (.inr (.inr (.inr (.inr (.inr (.inl ⟨.ora, .h, rfl⟩)))))))
  | oraL => exact .inr (.inr (.inr (.inr (.inr (.inr (.inr (.inl ⟨.ora, .l, rfl⟩)))))))
  | oraM => exact .inr (.inr (.inr (.inr (.inr (.inr (.inr (.inl ⟨.ora, .m, rfl⟩)))))))
  | oraA => exact .inr (.inr (.inr (.inr (.inr (.inr (.inr (.inl ⟨.ora, .a, rfl⟩)))))))
  | cmpB => exact .inr (.inr (.inr (.inr (.inr (.inr (.inr (.inl ⟨.cmp, .b, rfl⟩)))))))
  | cmpC => exact .inr (.inr (.inr (.inr (.inr (.inr (.inr (.inl ⟨.cmp, .c, rfl⟩)))))))
  | cmpD => exact .inr (.inr (.inr (.inr (.inr (.inr (.inr (.inl ⟨.cmp, .d, rfl⟩)))))))
  | cmpE => exact .inr (.inr (.inr (.inr (.inr (.inr (.inr (.inl ⟨.cmp, .e, rfl⟩)))))))
  | cmpH => exact .inr (.inr (.inr (.inr (.inr (.inr (.inr (.inl ⟨.cmp, .h, rfl⟩)))))))
  | cmpL => exact .inr (.inr (.inr (.inr (.inr (.inr (.inr (.inl ⟨.cmp, .l, rfl⟩)))))))
  | cmpM => exact .inr (.inr (.inr (.inr (.inr (.inr (.inr (.inl ⟨.cmp, .m, rfl⟩)))))))
  | cmpA => exact .inr (.inr (.inr (.inr (.inr (.inr (.inr (.inl ⟨.cmp, .a, rfl⟩)))))))
  | adi n => exact .inr (.inr (.inr (.inr (.inr (.inr (.inr (.inr ⟨.add, n, rfl⟩)))))))
  | aci n => exact .inr (.inr (.inr (.inr (.inr (.inr (.inr (.inr ⟨.adc, n, rfl⟩)))))))
  | sui n => exact .inr (.inr (.inr (.inr (.inr (.inr (.inr (.inr ⟨.sub, n, rfl⟩)))))))
  | sbi n => exact .inr (.inr (.inr (.inr (.inr (.inr (.inr (.inr ⟨.sbb, n, rfl⟩)))))))
  | ani n => exact .inr (.inr (.inr (.inr (.inr (.inr (.inr (.inr ⟨.ana, n, rfl⟩)))))))
  | xri n => exact .inr (.inr (.inr (.inr (.inr (.inr (.inr (.inr ⟨.xra, n, rfl⟩)))))))
  | ori n => exact .inr (.inr (.inr (.inr (.inr (.inr (.inr (.inr ⟨.ora, n, rfl⟩)))))))
  | cpi n => exact .inr (.inr (.inr (.inr (.inr (.inr (.inr (.inr ⟨.cmp, n, rfl⟩)))))))

/-- The operation of an accumulator row, with the carry-in of R128. -/
theorem exec_alu (op : AluOp) (src : Operand) (s : State) :
    exec (Instr.alu op src) s = .next (match op with
      | .add => addAcc (src.value s) false s
      | .adc => addAcc (src.value s) (flagCY s.f) s
      | .sub => subAcc (src.value s) false s
      | .sbb => subAcc (src.value s) (flagCY s.f) s
      | .ana => andAcc (src.value s) s
      | .xra => xorAcc (src.value s) s
      | .ora => orAcc (src.value s) s
      | .cmp => cmpAcc (src.value s) s) := by
  cases src with
  | reg r => cases op <;> cases r <;> rfl
  | imm n => cases op <;> rfl

theorem exec_inr (dst : Reg) (s : State) : exec (Instr.inr dst) s = .next (incReg dst s) := by
  cases dst <;> rfl

theorem exec_dcr (dst : Reg) (s : State) : exec (Instr.dcr dst) s = .next (decReg dst s) := by
  cases dst <;> rfl

end Sys2Proof.Machine
end

