-- ==== Sys2Proof/Laws/PerInstr.lean ====
section
/-! SUPPORT. Facts about every instruction as syntax, one lemma for each constructor.
`Wording`: an instruction's encoding is a well formed string of bytes (R70, R80, R82), and its
number of bytes is the width that the opcode table declares for its first byte (S5 of file 95). -/

namespace Sys2Proof.Laws.Wording

def Statement (i : Instr) : Prop :=
  wellFormedBytes (encode i) = true ∧ (encode i).length = opcodeWidth ((encode i).headD 0)

theorem nop : Statement .nop := ⟨rfl, rfl⟩
theorem hlt : Statement .hlt := ⟨rfl, rfl⟩
theorem movBB : Statement .movBB := ⟨rfl, rfl⟩
theorem movBC : Statement .movBC := ⟨rfl, rfl⟩
theorem movBD : Statement .movBD := ⟨rfl, rfl⟩
theorem movBE : Statement .movBE := ⟨rfl, rfl⟩
theorem movBH : Statement .movBH := ⟨rfl, rfl⟩
theorem movBL : Statement .movBL := ⟨rfl, rfl⟩
theorem movBM : Statement .movBM := ⟨rfl, rfl⟩
theorem movBA : Statement .movBA := ⟨rfl, rfl⟩
theorem movCB : Statement .movCB := ⟨rfl, rfl⟩
theorem movCC : Statement .movCC := ⟨rfl, rfl⟩
theorem movCD : Statement .movCD := ⟨rfl, rfl⟩
theorem movCE : Statement .movCE := ⟨rfl, rfl⟩
theorem movCH : Statement .movCH := ⟨rfl, rfl⟩
theorem movCL : Statement .movCL := ⟨rfl, rfl⟩
theorem movCM : Statement .movCM := ⟨rfl, rfl⟩
theorem movCA : Statement .movCA := ⟨rfl, rfl⟩
theorem movDB : Statement .movDB := ⟨rfl, rfl⟩
theorem movDC : Statement .movDC := ⟨rfl, rfl⟩
theorem movDD : Statement .movDD := ⟨rfl, rfl⟩
theorem movDE : Statement .movDE := ⟨rfl, rfl⟩
theorem movDH : Statement .movDH := ⟨rfl, rfl⟩
theorem movDL : Statement .movDL := ⟨rfl, rfl⟩
theorem movDM : Statement .movDM := ⟨rfl, rfl⟩
theorem movDA : Statement .movDA := ⟨rfl, rfl⟩
theorem movEB : Statement .movEB := ⟨rfl, rfl⟩
theorem movEC : Statement .movEC := ⟨rfl, rfl⟩
theorem movED : Statement .movED := ⟨rfl, rfl⟩
theorem movEE : Statement .movEE := ⟨rfl, rfl⟩
theorem movEH : Statement .movEH := ⟨rfl, rfl⟩
theorem movEL : Statement .movEL := ⟨rfl, rfl⟩
theorem movEM : Statement .movEM := ⟨rfl, rfl⟩
theorem movEA : Statement .movEA := ⟨rfl, rfl⟩
theorem movHB : Statement .movHB := ⟨rfl, rfl⟩
theorem movHC : Statement .movHC := ⟨rfl, rfl⟩
theorem movHD : Statement .movHD := ⟨rfl, rfl⟩
theorem movHE : Statement .movHE := ⟨rfl, rfl⟩
theorem movHH : Statement .movHH := ⟨rfl, rfl⟩
theorem movHL : Statement .movHL := ⟨rfl, rfl⟩
theorem movHM : Statement .movHM := ⟨rfl, rfl⟩
theorem movHA : Statement .movHA := ⟨rfl, rfl⟩
theorem movLB : Statement .movLB := ⟨rfl, rfl⟩
theorem movLC : Statement .movLC := ⟨rfl, rfl⟩
theorem movLD : Statement .movLD := ⟨rfl, rfl⟩
theorem movLE : Statement .movLE := ⟨rfl, rfl⟩
theorem movLH : Statement .movLH := ⟨rfl, rfl⟩
theorem movLL : Statement .movLL := ⟨rfl, rfl⟩
theorem movLM : Statement .movLM := ⟨rfl, rfl⟩
theorem movLA : Statement .movLA := ⟨rfl, rfl⟩
theorem movMB : Statement .movMB := ⟨rfl, rfl⟩
theorem movMC : Statement .movMC := ⟨rfl, rfl⟩
theorem movMD : Statement .movMD := ⟨rfl, rfl⟩
theorem movME : Statement .movME := ⟨rfl, rfl⟩
theorem movMH : Statement .movMH := ⟨rfl, rfl⟩
theorem movML : Statement .movML := ⟨rfl, rfl⟩
theorem movMA : Statement .movMA := ⟨rfl, rfl⟩
theorem movAB : Statement .movAB := ⟨rfl, rfl⟩
theorem movAC : Statement .movAC := ⟨rfl, rfl⟩
theorem movAD : Statement .movAD := ⟨rfl, rfl⟩
theorem movAE : Statement .movAE := ⟨rfl, rfl⟩
theorem movAH : Statement .movAH := ⟨rfl, rfl⟩
theorem movAL : Statement .movAL := ⟨rfl, rfl⟩
theorem movAM : Statement .movAM := ⟨rfl, rfl⟩
theorem movAA : Statement .movAA := ⟨rfl, rfl⟩
theorem mviB (n : Byte) : Statement (.mviB n) := ⟨rfl, by show 2 = opcodeWidth 0x06; rfl⟩
theorem mviC (n : Byte) : Statement (.mviC n) := ⟨rfl, by show 2 = opcodeWidth 0x0E; rfl⟩
theorem mviD (n : Byte) : Statement (.mviD n) := ⟨rfl, by show 2 = opcodeWidth 0x16; rfl⟩
theorem mviE (n : Byte) : Statement (.mviE n) := ⟨rfl, by show 2 = opcodeWidth 0x1E; rfl⟩
theorem mviH (n : Byte) : Statement (.mviH n) := ⟨rfl, by show 2 = opcodeWidth 0x26; rfl⟩
theorem mviL (n : Byte) : Statement (.mviL n) := ⟨rfl, by show 2 = opcodeWidth 0x2E; rfl⟩
theorem mviM (n : Byte) : Statement (.mviM n) := ⟨rfl, by show 2 = opcodeWidth 0x36; rfl⟩
theorem mviA (n : Byte) : Statement (.mviA n) := ⟨rfl, by show 2 = opcodeWidth 0x3E; rfl⟩
theorem addB : Statement .addB := ⟨rfl, rfl⟩
theorem addC : Statement .addC := ⟨rfl, rfl⟩
theorem addD : Statement .addD := ⟨rfl, rfl⟩
theorem addE : Statement .addE := ⟨rfl, rfl⟩
theorem addH : Statement .addH := ⟨rfl, rfl⟩
theorem addL : Statement .addL := ⟨rfl, rfl⟩
theorem addM : Statement .addM := ⟨rfl, rfl⟩
theorem addA : Statement .addA := ⟨rfl, rfl⟩
theorem adcB : Statement .adcB := ⟨rfl, rfl⟩
theorem adcC : Statement .adcC := ⟨rfl, rfl⟩
theorem adcD : Statement .adcD := ⟨rfl, rfl⟩
theorem adcE : Statement .adcE := ⟨rfl, rfl⟩
theorem adcH : Statement .adcH := ⟨rfl, rfl⟩
theorem adcL : Statement .adcL := ⟨rfl, rfl⟩
theorem adcM : Statement .adcM := ⟨rfl, rfl⟩
theorem adcA : Statement .adcA := ⟨rfl, rfl⟩
theorem subB : Statement .subB := ⟨rfl, rfl⟩
theorem subC : Statement .subC := ⟨rfl, rfl⟩
theorem subD : Statement .subD := ⟨rfl, rfl⟩
theorem subE : Statement .subE := ⟨rfl, rfl⟩
theorem subH : Statement .subH := ⟨rfl, rfl⟩
theorem subL : Statement .subL := ⟨rfl, rfl⟩
theorem subM : Statement .subM := ⟨rfl, rfl⟩
theorem subA : Statement .subA := ⟨rfl, rfl⟩
theorem sbbB : Statement .sbbB := ⟨rfl, rfl⟩
theorem sbbC : Statement .sbbC := ⟨rfl, rfl⟩
theorem sbbD : Statement .sbbD := ⟨rfl, rfl⟩
theorem sbbE : Statement .sbbE := ⟨rfl, rfl⟩
theorem sbbH : Statement .sbbH := ⟨rfl, rfl⟩
theorem sbbL : Statement .sbbL := ⟨rfl, rfl⟩
theorem sbbM : Statement .sbbM := ⟨rfl, rfl⟩
theorem sbbA : Statement .sbbA := ⟨rfl, rfl⟩
theorem inrB : Statement .inrB := ⟨rfl, rfl⟩
theorem inrC : Statement .inrC := ⟨rfl, rfl⟩
theorem inrD : Statement .inrD := ⟨rfl, rfl⟩
theorem inrE : Statement .inrE := ⟨rfl, rfl⟩
theorem inrH : Statement .inrH := ⟨rfl, rfl⟩
theorem inrL : Statement .inrL := ⟨rfl, rfl⟩
theorem inrM : Statement .inrM := ⟨rfl, rfl⟩
theorem inrA : Statement .inrA := ⟨rfl, rfl⟩
theorem dcrB : Statement .dcrB := ⟨rfl, rfl⟩
theorem dcrC : Statement .dcrC := ⟨rfl, rfl⟩
theorem dcrD : Statement .dcrD := ⟨rfl, rfl⟩
theorem dcrE : Statement .dcrE := ⟨rfl, rfl⟩
theorem dcrH : Statement .dcrH := ⟨rfl, rfl⟩
theorem dcrL : Statement .dcrL := ⟨rfl, rfl⟩
theorem dcrM : Statement .dcrM := ⟨rfl, rfl⟩
theorem dcrA : Statement .dcrA := ⟨rfl, rfl⟩
theorem anaB : Statement .anaB := ⟨rfl, rfl⟩
theorem anaC : Statement .anaC := ⟨rfl, rfl⟩
theorem anaD : Statement .anaD := ⟨rfl, rfl⟩
theorem anaE : Statement .anaE := ⟨rfl, rfl⟩
theorem anaH : Statement .anaH := ⟨rfl, rfl⟩
theorem anaL : Statement .anaL := ⟨rfl, rfl⟩
theorem anaM : Statement .anaM := ⟨rfl, rfl⟩
theorem anaA : Statement .anaA := ⟨rfl, rfl⟩
theorem xraB : Statement .xraB := ⟨rfl, rfl⟩
theorem xraC : Statement .xraC := ⟨rfl, rfl⟩
theorem xraD : Statement .xraD := ⟨rfl, rfl⟩
theorem xraE : Statement .xraE := ⟨rfl, rfl⟩
theorem xraH : Statement .xraH := ⟨rfl, rfl⟩
theorem xraL : Statement .xraL := ⟨rfl, rfl⟩
theorem xraM : Statement .xraM := ⟨rfl, rfl⟩
theorem xraA : Statement .xraA := ⟨rfl, rfl⟩
theorem oraB : Statement .oraB := ⟨rfl, rfl⟩
theorem oraC : Statement .oraC := ⟨rfl, rfl⟩
theorem oraD : Statement .oraD := ⟨rfl, rfl⟩
theorem oraE : Statement .oraE := ⟨rfl, rfl⟩
theorem oraH : Statement .oraH := ⟨rfl, rfl⟩
theorem oraL : Statement .oraL := ⟨rfl, rfl⟩
theorem oraM : Statement .oraM := ⟨rfl, rfl⟩
theorem oraA : Statement .oraA := ⟨rfl, rfl⟩
theorem cmpB : Statement .cmpB := ⟨rfl, rfl⟩
theorem cmpC : Statement .cmpC := ⟨rfl, rfl⟩
theorem cmpD : Statement .cmpD := ⟨rfl, rfl⟩
theorem cmpE : Statement .cmpE := ⟨rfl, rfl⟩
theorem cmpH : Statement .cmpH := ⟨rfl, rfl⟩
theorem cmpL : Statement .cmpL := ⟨rfl, rfl⟩
theorem cmpM : Statement .cmpM := ⟨rfl, rfl⟩
theorem cmpA : Statement .cmpA := ⟨rfl, rfl⟩
theorem adi (n : Byte) : Statement (.adi n) := ⟨rfl, by show 2 = opcodeWidth 0xC6; rfl⟩
theorem aci (n : Byte) : Statement (.aci n) := ⟨rfl, by show 2 = opcodeWidth 0xCE; rfl⟩
theorem sui (n : Byte) : Statement (.sui n) := ⟨rfl, by show 2 = opcodeWidth 0xD6; rfl⟩
theorem sbi (n : Byte) : Statement (.sbi n) := ⟨rfl, by show 2 = opcodeWidth 0xDE; rfl⟩
theorem ani (n : Byte) : Statement (.ani n) := ⟨rfl, by show 2 = opcodeWidth 0xE6; rfl⟩
theorem xri (n : Byte) : Statement (.xri n) := ⟨rfl, by show 2 = opcodeWidth 0xEE; rfl⟩
theorem ori (n : Byte) : Statement (.ori n) := ⟨rfl, by show 2 = opcodeWidth 0xF6; rfl⟩
theorem cpi (n : Byte) : Statement (.cpi n) := ⟨rfl, by show 2 = opcodeWidth 0xFE; rfl⟩
theorem out (p : Byte) : Statement (.out p) := ⟨rfl, by show 2 = opcodeWidth 0xD3; rfl⟩

end Sys2Proof.Laws.Wording
end

