-- ==== Sys2Proof/Laws/Step.lean ====
section
/-! SUPPORT. What a step can do, said once: it answers a next state only from the running state, and
then it records a fault of the fetch or runs the fetched instruction and advances the pc. Later
proofs split on this lemma and do not unfold `step`. -/

namespace Sys2Proof.Machine

theorem step_halted (s : State) (h : s.run = .halted) : step s = .fault .machineHalted := by
  unfold step; rw [h]

theorem step_faulted (s : State) (c : FaultReason) (op : Byte) (a : Word) (h : s.run = .fault c op a) :
    step s = .fault (.machineFaulted c op a) := by
  unfold step; rw [h]

/-- A running state whose fetch faults: the fault is recorded (R221, R222). -/
theorem step_fetch_error (s : State) (c : FaultReason) (h : s.run = .running)
    (hf : s.wrapPc.fetch = .error c) :
    step s = .next (s.wrapPc.raiseFault c s.wrapPc.opcodeAtPc) := by
  unfold step; rw [h]; simp only [hf]

/-- A running state whose fetch gives an instruction that completes: it runs, and the pc advances. -/
theorem step_executes (s t : State) (i : Instr) (h : s.run = .running) (hf : s.wrapPc.fetch = .ok i)
    (he : exec i s.wrapPc = .next t) :
    step s = .next (t.advancePc (opcodeWidth s.wrapPc.opcodeAtPc)) := by
  unfold step; rw [h]; simp only [hf, he]

/-- The inversion of a step. -/
theorem step_next_cases (s s' : State) (h : step s = .next s') :
    s.run = .running ∧
      ((∃ c, s.wrapPc.fetch = .error c ∧ s' = s.wrapPc.raiseFault c s.wrapPc.opcodeAtPc) ∨
       (∃ i t, s.wrapPc.fetch = .ok i ∧ exec i s.wrapPc = .next t ∧
          s' = t.advancePc (opcodeWidth s.wrapPc.opcodeAtPc))) := by
  unfold step at h
  split at h
  · cases h
  · cases h
  · rename_i hr
    refine ⟨hr, ?_⟩
    split at h
    · rename_i c hc
      exact .inl ⟨c, hc, (Host.Outcome.next.inj h).symm⟩
    · rename_i i hi
      split at h
      · rename_i t ht
        exact .inr ⟨i, t, hi, ht, (Host.Outcome.next.inj h).symm⟩
      · cases h
      · cases h

/-- When a fetch faults: the opcode is invalid, or it has width 2 and lies in the last byte of memory. -/
theorem fetch_error_cases (s : State) (c : FaultReason) (h : s.fetch = .error c) :
    (c = .invalidOpcode ∧ opcodeWidth s.opcodeAtPc = 0) ∨
      (c = .operandOutOfRange ∧ opcodeWidth s.opcodeAtPc = 2 ∧ s.memSize ≤ s.pc.toNat + 1) := by
  unfold State.fetch at h
  split at h
  · rename_i e
    cases h
    exact .inl ⟨rfl, by rw [opcodeWidth, e]; rfl⟩
  · cases h
  · rename_i build e
    split at h
    · cases h
    · rename_i hlt
      cases h
      exact .inr ⟨rfl, by rw [opcodeWidth, e]; rfl, Nat.not_lt.mp hlt⟩

/-- When a fetch gives an instruction: its width is 1, or 2 with the operand inside memory. -/
theorem fetch_ok_cases (s : State) (i : Instr) (h : s.fetch = .ok i) :
    (opcodeTable s.opcodeAtPc = .one i ∧ opcodeWidth s.opcodeAtPc = 1) ∨
      (∃ build, opcodeTable s.opcodeAtPc = .two build ∧ opcodeWidth s.opcodeAtPc = 2 ∧
        s.pc.toNat + 1 < s.memSize ∧ i = build (s.mem.read (s.pc.toNat + 1))) := by
  unfold State.fetch at h
  split at h
  · cases h
  · rename_i j e
    cases h
    exact .inl ⟨e, by rw [opcodeWidth, e]; rfl⟩
  · rename_i build e
    split at h
    · rename_i hlt
      cases h
      exact .inr ⟨build, e, by rw [opcodeWidth, e]; rfl, hlt, rfl⟩
    · cases h

end Sys2Proof.Machine
end

