-- ==== Sys2Proof/Tests/Slice0.lean ====
section
/-! SUPPORT. Tests of the model. Every expected value is the spec's: the byte patterns of R72 to R78, the
lists of R80 and R82, the vectors V1 to V9 and the scenarios of file 95; none was taken from the
model. Then, for each statement with hypotheses, a witness that they can be met together. -/

namespace Sys2Proof.Tests

open Sys2Proof.Machine

/-! ## Well-formedness: one ill-formed string of bytes for each check -/

theorem test_wf_no_opcode : hasOpcode [] = false ∧ wellFormedBytes [] = false := by decide
theorem test_wf_invalid_opcode : opcodeValid [0x08] = false ∧ wellFormedBytes [0x08] = false := by decide
theorem test_wf_missing_operand : lengthRight [0x3E] = false ∧ wellFormedBytes [0x3E] = false := by decide
theorem test_wf_extra_byte : lengthRight [0x00, 0x00] = false ∧ wellFormedBytes [0x00, 0x00] = false := by decide
theorem test_wf_good : wellFormedBytes [0x3E, 0x05] = true ∧ wellFormedBytes [0x76] = true := by decide

/-! ## Decoding: a word for every constructor, from the patterns of R72 and R77 -/

/-- The instruction that one byte, or a byte and the operand 0xA5, decodes to. -/
def one (op : Byte) : Option Instr := decodeTableWord 8 op.toNat
def two (op : Byte) : Option Instr := decodeTableWord 16 (op.toNat + 256 * 0xA5)

theorem test_decode_nop : one 0b00000000 = some .nop := by decide
theorem test_decode_hlt : one 0b01110110 = some .hlt := by decide
theorem test_decode_mov_b : [0x40, 0x41, 0x42, 0x43, 0x44, 0x45, 0x46, 0x47].map one =
    [some .movBB, some .movBC, some .movBD, some .movBE, some .movBH, some .movBL, some .movBM, some .movBA] := by decide
theorem test_decode_mov_c : [0x48, 0x49, 0x4A, 0x4B, 0x4C, 0x4D, 0x4E, 0x4F].map one =
    [some .movCB, some .movCC, some .movCD, some .movCE, some .movCH, some .movCL, some .movCM, some .movCA] := by decide
theorem test_decode_mov_d : [0x50, 0x51, 0x52, 0x53, 0x54, 0x55, 0x56, 0x57].map one =
    [some .movDB, some .movDC, some .movDD, some .movDE, some .movDH, some .movDL, some .movDM, some .movDA] := by decide
theorem test_decode_mov_e : [0x58, 0x59, 0x5A, 0x5B, 0x5C, 0x5D, 0x5E, 0x5F].map one =
    [some .movEB, some .movEC, some .movED, some .movEE, some .movEH, some .movEL, some .movEM, some .movEA] := by decide
theorem test_decode_mov_h : [0x60, 0x61, 0x62, 0x63, 0x64, 0x65, 0x66, 0x67].map one =
    [some .movHB, some .movHC, some .movHD, some .movHE, some .movHH, some .movHL, some .movHM, some .movHA] := by decide
theorem test_decode_mov_l : [0x68, 0x69, 0x6A, 0x6B, 0x6C, 0x6D, 0x6E, 0x6F].map one =
    [some .movLB, some .movLC, some .movLD, some .movLE, some .movLH, some .movLL, some .movLM, some .movLA] := by decide
theorem test_decode_mov_m : [0x70, 0x71, 0x72, 0x73, 0x74, 0x75, 0x77].map one =
    [some .movMB, some .movMC, some .movMD, some .movME, some .movMH, some .movML, some .movMA] := by decide
theorem test_decode_mov_a : [0x78, 0x79, 0x7A, 0x7B, 0x7C, 0x7D, 0x7E, 0x7F].map one =
    [some .movAB, some .movAC, some .movAD, some .movAE, some .movAH, some .movAL, some .movAM, some .movAA] := by decide
theorem test_decode_inr : [0x04, 0x0C, 0x14, 0x1C, 0x24, 0x2C, 0x34, 0x3C].map one =
    [some .inrB, some .inrC, some .inrD, some .inrE, some .inrH, some .inrL, some .inrM, some .inrA] := by decide
theorem test_decode_dcr : [0x05, 0x0D, 0x15, 0x1D, 0x25, 0x2D, 0x35, 0x3D].map one =
    [some .dcrB, some .dcrC, some .dcrD, some .dcrE, some .dcrH, some .dcrL, some .dcrM, some .dcrA] := by decide
theorem test_decode_mvi : [0x06, 0x0E, 0x16, 0x1E, 0x26, 0x2E, 0x36, 0x3E].map two =
    [some (.mviB 0xA5), some (.mviC 0xA5), some (.mviD 0xA5), some (.mviE 0xA5), some (.mviH 0xA5), some (.mviL 0xA5), some (.mviM 0xA5), some (.mviA 0xA5)] := by decide
theorem test_decode_add : [0x80, 0x81, 0x82, 0x83, 0x84, 0x85, 0x86, 0x87].map one =
    [some .addB, some .addC, some .addD, some .addE, some .addH, some .addL, some .addM, some .addA] := by decide
theorem test_decode_adc : [0x88, 0x89, 0x8A, 0x8B, 0x8C, 0x8D, 0x8E, 0x8F].map one =
    [some .adcB, some .adcC, some .adcD, some .adcE, some .adcH, some .adcL, some .adcM, some .adcA] := by decide
theorem test_decode_sub : [0x90, 0x91, 0x92, 0x93, 0x94, 0x95, 0x96, 0x97].map one =
    [some .subB, some .subC, some .subD, some .subE, some .subH, some .subL, some .subM, some .subA] := by decide
theorem test_decode_sbb : [0x98, 0x99, 0x9A, 0x9B, 0x9C, 0x9D, 0x9E, 0x9F].map one =
    [some .sbbB, some .sbbC, some .sbbD, some .sbbE, some .sbbH, some .sbbL, some .sbbM, some .sbbA] := by decide
theorem test_decode_ana : [0xA0, 0xA1, 0xA2, 0xA3, 0xA4, 0xA5, 0xA6, 0xA7].map one =
    [some .anaB, some .anaC, some .anaD, some .anaE, some .anaH, some .anaL, some .anaM, some .anaA] := by decide
theorem test_decode_xra : [0xA8, 0xA9, 0xAA, 0xAB, 0xAC, 0xAD, 0xAE, 0xAF].map one =
    [some .xraB, some .xraC, some .xraD, some .xraE, some .xraH, some .xraL, some .xraM, some .xraA] := by decide
theorem test_decode_ora : [0xB0, 0xB1, 0xB2, 0xB3, 0xB4, 0xB5, 0xB6, 0xB7].map one =
    [some .oraB, some .oraC, some .oraD, some .oraE, some .oraH, some .oraL, some .oraM, some .oraA] := by decide
theorem test_decode_cmp : [0xB8, 0xB9, 0xBA, 0xBB, 0xBC, 0xBD, 0xBE, 0xBF].map one =
    [some .cmpB, some .cmpC, some .cmpD, some .cmpE, some .cmpH, some .cmpL, some .cmpM, some .cmpA] := by decide
theorem test_decode_immediates : [0b11000110, 0b11001110, 0b11010110, 0b11011110, 0b11100110, 0b11101110,
    0b11110110, 0b11111110].map two =
    [some (.adi 0xA5), some (.aci 0xA5), some (.sui 0xA5), some (.sbi 0xA5), some (.ani 0xA5), some (.xri 0xA5),
     some (.ori 0xA5), some (.cpi 0xA5)] := by decide
theorem test_decode_out : two 0b11010011 = some (.out 0xA5) := by decide
theorem test_decode_invalid : [0x01, 0x07, 0x08, 0x0A, 0x22, 0x27, 0x2F, 0x32, 0x37, 0x3A, 0x3F, 0xC0, 0xC1, 0xC2, 0xC3, 0xC4, 0xC5, 0xC7, 0xC9, 0xCD, 0xD9, 0xDB, 0xE9, 0xEB, 0xF3, 0xFB, 0xFF].all
    (fun op => (one op).isNone) = true := by decide
theorem test_decode_no_operand_is_zero : decodeTableWord 8 0x3E = some (.mviA 0) := by decide
theorem test_encode_mvi : encode (.mviM 0xFF) = [0x36, 0xFF] ∧ encode .movLA = [0x6F] := by decide

/-! ## Descriptors (R70, R81, R84) -/

theorem test_descriptor_valid : descriptor 0x41 = ⟨"MOV B,C", 1⟩ ∧ descriptor 0xC6 = ⟨"ADI n", 2⟩ := by decide
theorem test_descriptor_invalid : descriptor 0xFF = ⟨"INVALID", 0⟩ := by decide

/-! ## The flag engine: V1 -/

theorem test_parity : [0x00, 0x01, 0x03, 0x07, 0x0F, 0x7F, 0x80, 0xFE, 0xFF, 0xA5, 0x55].map parity =
    [true, false, true, false, true, false, false, false, true, true, true] := by decide
theorem test_pack : pack false false false false false = 0x02 ∧ pack true true true true true = 0xD7 ∧
    pack false true false true false = 0x46 ∧ pack true false true false true = 0x93 := by decide
theorem test_cy_sub : cySub 0x00 0x01 false = true ∧ cySub 0x00 0x00 true = true ∧ cySub 0x05 0x05 false = false ∧
    cySub 0x05 0x05 true = true ∧ cySub 0x00 0xFF true = true ∧ cySub 0xFF 0xFF true = true := by decide
theorem test_ac_sub : acSub 0x10 0x01 false = true ∧ acSub 0x10 0x00 true = true ∧ acSub 0x0F 0x0F false = false ∧
    acSub 0x0F 0x0F true = false ∧ acSub 0x00 0xFF true = false ∧ acSub 0x05 0x0F true = false := by decide

/-! ## Instructions: V2 to V8, on small states -/

/-- The reset state with A, B and F given. -/
def withABF (a b f : Byte) : State := { State.reset with regs := ⟨b, 0, 0, 0, 0, 0, 0, a⟩, f := f }

/-- A and F after a meaning. -/
def af : Result → Option (Byte × Byte)
  | .next s => some (s.regs.a, s.f)
  | .fault _ => none
  | .refused _ => none

/-- B and F after a meaning. -/
def bf : Result → Option (Byte × Byte)
  | .next s => some (s.regs.b, s.f)
  | .fault _ => none
  | .refused _ => none

/-- A field of the next state. -/
def nextField {α : Type} (field : State → α) : Result → Option α
  | .next s => some (field s)
  | .fault _ => none
  | .refused _ => none

theorem test_add :
    af (exec .addB (withABF 0x2E 0x6C 0x02)) = some (0x9A, 0x96) ∧
    af (exec (.adi 0x01) (withABF 0xFF 0x00 0x02)) = some (0x00, 0x57) ∧
    af (exec .addB (withABF 0x80 0x80 0x02)) = some (0x00, 0x47) ∧
    af (exec (.adi 0x01) (withABF 0xFF 0x00 0x03)) = some (0x00, 0x57) := by decide
theorem test_adc :
    af (exec .adcB (withABF 0x3D 0x42 0x03)) = some (0x80, 0x92) ∧
    af (exec (.aci 0xFF) (withABF 0xFF 0x00 0x03)) = some (0xFF, 0x97) ∧
    af (exec .adcB (withABF 0x3D 0x42 0x02)) = some (0x7F, 0x02) ∧
    af (exec (.aci 0xBE) (withABF 0x56 0x00 0x03)) = some (0x15, 0x13) := by decide
theorem test_sub :
    af (exec .subB (withABF 0x10 0x01 0x02)) = some (0x0F, 0x16) ∧
    af (exec (.sui 0x0A) (withABF 0x05 0x00 0x02)) = some (0xFB, 0x93) ∧
    af (exec .subB (withABF 0x00 0x01 0x02)) = some (0xFF, 0x97) ∧
    af (exec (.sui 0x34) (withABF 0x12 0x00 0x02)) = some (0xDE, 0x97) := by decide
theorem test_sbb :
    af (exec .sbbB (withABF 0x00 0xFF 0x03)) = some (0x00, 0x47) ∧
    af (exec (.sbi 0x3E) (withABF 0x37 0x00 0x03)) = some (0xF8, 0x93) ∧
    af (exec .sbbB (withABF 0x20 0x0F 0x03)) = some (0x10, 0x02) ∧
    af (exec (.sbi 0xFF) (withABF 0x00 0x00 0x02)) = some (0x01, 0x13) := by decide
theorem test_ana :
    af (exec .anaB (withABF 0xFC 0x0F 0x02)) = some (0x0C, 0x16) ∧
    af (exec (.ani 0x0F) (withABF 0x3A 0x00 0x02)) = some (0x0A, 0x16) ∧
    af (exec .anaB (withABF 0x01 0x01 0x03)) = some (0x01, 0x12) := by decide
theorem test_ora :
    af (exec .oraB (withABF 0x33 0x0F 0x02)) = some (0x3F, 0x06) ∧
    af (exec (.ori 0x0F) (withABF 0xB5 0x00 0x02)) = some (0xBF, 0x82) := by decide
theorem test_xra :
    af (exec .xraB (withABF 0x5C 0x78 0x02)) = some (0x24, 0x06) ∧
    af (exec (.xri 0x81) (withABF 0x3B 0x00 0x02)) = some (0xBA, 0x82) := by decide
theorem test_cmp :
    af (exec .cmpB (withABF 0x05 0x0A 0x02)) = some (0x05, 0x93) ∧
    af (exec (.cpi 0x34) (withABF 0x12 0x00 0x02)) = some (0x12, 0x97) ∧
    af (exec .cmpB (withABF 0x04 0x02 0x03)) = some (0x04, 0x02) ∧
    af (exec (.cpi 0x03) (withABF 0x03 0x00 0x02)) = some (0x03, 0x46) := by decide
theorem test_inr :
    bf (exec .inrB (withABF 0x55 0x0F 0x02)) = some (0x10, 0x12) ∧
    bf (exec .inrB (withABF 0x55 0xFF 0x03)) = some (0x00, 0x57) ∧
    bf (exec .inrB (withABF 0x55 0x99 0x03)) = some (0x9A, 0x87) ∧
    bf (exec .inrB (withABF 0x55 0x0E 0xD7)) = some (0x0F, 0x07) := by decide
theorem test_dcr :
    bf (exec .dcrB (withABF 0x55 0x00 0x02)) = some (0xFF, 0x96) ∧
    bf (exec .dcrB (withABF 0x55 0x01 0x02)) = some (0x00, 0x46) ∧
    bf (exec .dcrB (withABF 0x55 0x10 0x03)) = some (0x0F, 0x17) ∧
    bf (exec .dcrB (withABF 0x55 0x80 0x02)) = some (0x7F, 0x12) := by decide
theorem test_sub_a_sbb_a : af (exec .subA (withABF 0x3E 0 3)) = some (0x00, 0x46) ∧
    af (exec .sbbA (withABF 0x00 0 3)) = some (0xFF, 0x97) ∧ af (exec .sbbA (withABF 0x0F 0 3)) = some (0xFF, 0x87) := by decide
theorem test_mov_mvi : nextField (fun s => (s.regs.b, s.bc, s.f)) (exec .movBC { State.reset with regs := ⟨0, 0x5A, 0, 0, 0, 0, 0, 0⟩ }) =
      some (0x5A, 0x5A5A, 0x02) ∧
    nextField (fun s => (s.regs.h, s.hl)) (exec (.mviH 0xAB) State.reset) = some (0xAB, 0xAB00) := by decide
theorem test_mov_m_is_a_register : nextField (fun s => (s.regs.m, s.mem)) (exec .movML
    { State.reset with regs := ⟨0, 0, 0, 0, 0, 0x9C, 0, 0⟩ }) = some (0x9C, []) := by decide

/-- The start state of V8: OUT at address 0x0010. -/
def v8 : State := { State.reset with regs := ⟨1, 2, 3, 4, 5, 6, 7, 0x2A⟩, f := 0x46, pc := 0x0010 }

theorem test_out_events : [0x00, 0x01, 0x02, 0x03, 0x04, 0xFF].map (fun p => nextField (·.out) (exec (.out p) v8)) =
    [some [.decimalA 42], some [.regs 1 2 3 4 5 6 7 0x2A], some [.pairs 0x0102 0x0304 0x0506],
     some [.status 0x0000 0x0010 0x46 true], some [], some []] := by decide
theorem test_out_ports : nextField (·.ports) (exec (.out 0xFF) v8) = some [(255, 0x2A)] ∧
    nextField (fun s => (s.portAt 4, s.portAt 5)) (exec (.out 4) v8) = some (0x2A, 0x00) := by decide

/-! ## The engine: V9 -/

/-- A machine of a given capacity and image, with a chosen pc. -/
def machineAt (memSize : Nat) (image : List Byte) (pc : Word) : State :=
  match State.construct memSize (some image) with
  | .ok s => { s with pc := pc }
  | .error _ => State.reset

/-- A, pc and run state after a step. -/
def apr (s : State) : Option (Byte × Word × RunState) := nextField (fun s => (s.regs.a, s.pc, s.run)) (step s)

theorem test_step_wraps : apr (machineAt 8 [0x3C] 0x0008) = some (0x01, 0x0001, .running) ∧
    apr (machineAt 64 [0x3C] 0x03E8) = some (0x01, 0x0001, .running) := by decide
theorem test_step_last_byte : apr (machineAt 8 [0, 0, 0, 0, 0, 0, 0, 0x3C] 0x0007) = some (0x01, 0x0008, .running) := by decide
theorem test_step_operand_beyond_memory : apr (machineAt 8 [0, 0, 0, 0, 0, 0, 0, 0x3E] 0x0007) =
      some (0x00, 0x0007, .fault .operandOutOfRange 0x3E 0x0007) ∧
    apr (machineAt 1 [0x3E, 0x99] 0x0000) = some (0x00, 0x0000, .fault .operandOutOfRange 0x3E 0x0000) := by decide
theorem test_step_invalid : apr (machineAt 64 [0x08] 0x0000) = some (0x00, 0x0000, .fault .invalidOpcode 0x08 0x0000) := by decide
theorem test_step_hlt : apr (machineAt 1 [0x76] 0x0000) = some (0x00, 0x0001, .halted) := by decide
theorem test_step_mvi : apr (machineAt 64 [0x3E, 0x05, 0x76] 0x0000) = some (0x05, 0x0002, .running) := by decide
theorem test_image_truncated : (machineAt 4 [0x3E, 0x01, 0x04, 0xC6, 0x05, 0x76] 0).memContents =
    [0x3E, 0x01, 0x04, 0xC6] := by decide

/-- The host's placing of a word: the very next step after reset runs it. -/
theorem test_fetch_word : apr (State.reset.withFetchWord 16 0x053E) = some (0x05, 0x0002, .running) ∧
    apr (State.reset.withFetchWord 8 0x3C) = some (0x01, 0x0001, .running) ∧
    apr (State.reset.withFetchWord 8 0x3E) = some (0x00, 0x0002, .running) := by decide

/-! ## Witnesses: the hypotheses of each statement can be met together -/

/-- The state after a meaning or a step that answers one. -/
def after (o : Result) (s : State) : State :=
  match o with
  | .next t => t
  | .fault _ => s
  | .refused _ => s

theorem witness_EncodingsPlaceTheFields : Instr.mov .m .a = some .movMA ∧ Instr.mov .m .m = none := ⟨rfl, rfl⟩
theorem witness_BorrowsOfSubtraction : (0x0F : Byte).toNat % 16 = 15 ∧ (0xFF : Byte).toNat % 16 = 15 ∧ true = true := ⟨rfl, rfl, rfl⟩
theorem witness_MovCopiesTheSlot : Instr.mov .b .b = some .movBB ∧ Instr.mov .a .m = some .movAM := ⟨rfl, rfl⟩
theorem witness_AddWritesSumAndFlags : (0xFF : Nat) = (withABF 0xFF 0x01 0x02).regs.a.toNat ∧
    (0x01 : Nat) = ((Operand.reg .b).value (withABF 0xFF 0x01 0x02)).toNat := ⟨rfl, rfl⟩
theorem witness_AdcWritesSumAndFlags : (0xFF : Nat) = (withABF 0xFF 0xFF 0x03).regs.a.toNat ∧
    (0xFF : Nat) = ((Operand.imm 0xFF).value (withABF 0xFF 0xFF 0x03)).toNat ∧ 1 = (withABF 0xFF 0xFF 0x03).f.toNat % 2 := ⟨rfl, rfl, rfl⟩
theorem witness_SubWritesDifferenceAndFlags : (0x00 : Nat) = (withABF 0x00 0xFF 0x02).regs.a.toNat ∧
    (0xFF : Nat) = ((Operand.reg .b).value (withABF 0x00 0xFF 0x02)).toNat := ⟨rfl, rfl⟩
theorem witness_SbbWritesDifferenceAndFlags : (0x00 : Nat) = (withABF 0x00 0xFF 0x03).regs.a.toNat ∧
    (0xFF : Nat) = ((Operand.reg .b).value (withABF 0x00 0xFF 0x03)).toNat ∧ 1 = (withABF 0x00 0xFF 0x03).f.toNat % 2 := ⟨rfl, rfl, rfl⟩
theorem witness_CmpWritesOnlyFlags : (0x05 : Nat) = (withABF 0x05 0x0A 0x02).regs.a.toNat ∧
    (0x0A : Nat) = ((Operand.imm 0x0A).value (withABF 0x05 0x0A 0x02)).toNat := ⟨rfl, rfl⟩
theorem witness_LogicalWritesResultAndForcedFlags : (0xFC : Byte) = (withABF 0xFC 0x0F 0x02).regs.a ∧
    (0x0F : Byte) = (Operand.reg .b).value (withABF 0xFC 0x0F 0x02) := ⟨rfl, rfl⟩
theorem witness_InrIncrementsTheSlot : (0xFF : Nat) = ((withABF 0x55 0xFF 0x03).regs.get .b).toNat := rfl
theorem witness_DcrDecrementsTheSlot : (0x00 : Nat) = ((withABF 0x55 0x00 0x03).regs.get .b).toNat := rfl
theorem witness_AccumulatorOperationFrame : ∃ t, exec (Instr.alu .cmp (.reg .m)) v8 = .next t ∧ Reg.b ≠ .a ∧ AluOp.cmp = .cmp := ⟨_, rfl, by decide, rfl⟩
theorem witness_MoveFrame : (∃ t, Instr.mov .b .a = some .movBA ∧ exec .movBA v8 = .next t ∧ Reg.c ≠ .b) ∧
    ∃ t, exec (Instr.mvi .a 0xFF) v8 = .next t ∧ Reg.m ≠ .a := ⟨⟨_, rfl, rfl, by decide⟩, ⟨_, rfl, by decide⟩⟩
theorem witness_IncrementDecrementFrame : ∃ t u, exec (Instr.inr .l) v8 = .next t ∧ exec (Instr.dcr .l) v8 = .next u ∧ Reg.h ≠ .l := ⟨_, _, rfl, rfl, by decide⟩
theorem witness_NopHltOutFrame : ∃ t u v, exec .nop v8 = .next t ∧ exec .hlt v8 = .next u ∧ exec (.out 0xFF) v8 = .next v ∧ 254 ≠ (0xFF : Byte).toNat := ⟨_, _, _, rfl, rfl, rfl, by decide⟩
theorem witness_EveryInstructionCompletes : Instr.nop ≠ .hlt := by decide
theorem witness_SlotMIsNeverAnAddress : ∃ t u, exec .addM v8 = .next t ∧ exec .inrM v8 = .next u := ⟨_, _, rfl, rfl⟩
/-- Operands that meet the hypotheses on `a`, `b` and `c`, for a carry of 1 and a carry of 0. -/
theorem witness_CarryInOfEachInstruction : (∃ t, exec (Instr.alu .adc (.reg .b)) (withABF 0xFF 0xFF 0x03) = .next t) ∧
    (∃ t, exec (Instr.alu .sbb (.reg .b)) (withABF 0x00 0xFF 0x03) = .next t) ∧ (withABF 0xFF 0xFF 0x03).f.toNat % 2 = 1 ∧
    (∃ t, exec (Instr.alu .add (.imm 1)) (withABF 0xFF 0x00 0x03) = .next t) ∧ (∃ t, exec (Instr.alu .cmp (.imm 1)) (withABF 0xFF 0x00 0x03) = .next t) ∧
    (∃ t u, exec (Instr.inr .m) v8 = .next t ∧ exec (Instr.dcr .m) v8 = .next u) :=
  ⟨⟨_, rfl⟩, ⟨_, rfl⟩, by decide, ⟨_, rfl⟩, ⟨_, rfl⟩, _, _, rfl, rfl⟩
/-- An instruction outside the four families, and one whose event shows the carry. -/
theorem witness_CarryInOfEachInstruction_others : (∃ t u, exec .movBC v8 = .next t ∧ exec .movBC { v8 with f := v8.f ^^^ 0x01 } = .next u) ∧
    Instr.movBC ≠ .out 3 ∧ (∀ src, Instr.movBC ≠ Instr.alu .adc src ∧ Instr.movBC ≠ Instr.alu .sbb src) ∧
    ∀ src, Instr.out 3 ≠ Instr.alu .adc src ∧ Instr.out 3 ≠ Instr.alu .sbb src := by
  refine ⟨⟨_, _, rfl, rfl⟩, by decide, ?_, ?_⟩ <;> rintro (r | n) <;> first | decide | (cases r <;> decide) | exact ⟨nofun, nofun⟩
theorem witness_AddThenSubRestoresTheAccumulator : ∀ src ∈ [Operand.reg .b, .reg .a, .imm 0xFF], ∃ t u,
    exec (Instr.alu .add src) v8 = .next t ∧ exec (Instr.alu .sub src) t = .next u := by
  intro src h
  simp only [List.mem_cons, List.not_mem_nil, or_false] at h
  rcases h with rfl | rfl | rfl <;> exact ⟨_, _, rfl, rfl⟩
theorem witness_CompareSetsTheFlagsOfSubtract : ∃ t u, exec (Instr.alu .cmp (.reg .a)) v8 = .next t ∧ exec (Instr.alu .sub (.reg .a)) v8 = .next u := ⟨_, _, rfl, rfl⟩
theorem witness_IncrementAgreesWithAddOfOne : ∀ dst ∈ [Reg.l, .a], ∃ t u v w, exec (Instr.inr dst) v8 = .next t ∧
    exec (.adi 1) { v8 with regs := v8.regs.set .a (v8.regs.get dst) } = .next u ∧ exec (Instr.dcr dst) v8 = .next v ∧
    exec (.sui 1) { v8 with regs := v8.regs.set .a (v8.regs.get dst) } = .next w := by
  intro dst h
  simp only [List.mem_cons, List.not_mem_nil, or_false] at h
  rcases h with rfl | rfl <;> exact ⟨_, _, _, _, rfl, rfl, rfl, rfl⟩
theorem witness_ReadAfterWriteOfBytes : Memory.wf [(0, 0x3E), (65535, 0x01)] = true := by decide
theorem witness_StepRunsTheDecodedInstruction : ∃ t, (machineAt 64 [0x3E, 0x05] 64).run = .running ∧
    decode (machineAt 64 [0x3E, 0x05] 64).wrapPc.bytesAtPc = .ok (.mviA 5, []) ∧
    exec (.mviA 5) (machineAt 64 [0x3E, 0x05] 64).wrapPc = .next t := ⟨_, by decide, by decide, rfl⟩
theorem witness_PcBeyondMemoryWrapsToZero : (machineAt 8 [0x3C] 8).memSize ≤ (machineAt 8 [0x3C] 8).pc.toNat ∧ (machineAt 8 [0x3C] 8).run = .running ∧
    (machineAt 8 [0x3C] 7).pc.toNat < (machineAt 8 [0x3C] 7).memSize := by decide
theorem witness_InvalidOpcodeFaultsAndChangesNothingElse : (machineAt 64 [0xFF] 0).run = .running ∧
    opcodeWidth ((machineAt 64 [0xFF] 0).mem.read (machineAt 64 [0xFF] 0).fetchAddr.toNat) = 0 := by decide
theorem witness_OperandBeyondMemoryFaults : (machineAt 1 [0x3E] 0).run = .running ∧
    opcodeWidth ((machineAt 1 [0x3E] 0).mem.read (machineAt 1 [0x3E] 0).fetchAddr.toNat) = 2 ∧
    (machineAt 1 [0x3E] 0).fetchAddr.toNat + 1 = (machineAt 1 [0x3E] 0).memSize := by decide
theorem witness_TerminalStatesDoNotStep : (State.reset.setRun .halted).run = .halted ∧
    (State.reset.setRun (.fault .invalidOpcode 0xFF 0)).run = .fault .invalidOpcode 0xFF 0 := ⟨rfl, rfl⟩

/-- A step to each kind of run state: the hypotheses of OnlyHltAndFaultsLeaveRunning,
StepMovesThePcByTheWidth, FaultingStepChangesOnlyTheRunState and StepEmitsOnlyForOut. -/
theorem witness_steps : (∃ t, step (machineAt 8 [0, 0, 0, 0, 0, 0, 0, 0x3C] 7) = .next t ∧ t.run = .running) ∧
    (∃ t, step (machineAt 1 [0x76] 1) = .next t ∧ t.run = .halted) ∧
    (∃ t, step (machineAt 64 [0xFF] 64) = .next t ∧ t.run = .fault .invalidOpcode 0xFF 0) ∧
    (∃ t, step (machineAt 1 [0xD3] 0) = .next t ∧ t.run = .fault .operandOutOfRange 0xD3 0) ∧
    (∃ t, step (machineAt 2 [0xD3, 0x03] 0) = .next t ∧ t.out.length = 1) :=
  ⟨⟨_, rfl, rfl⟩, ⟨_, rfl, rfl⟩, ⟨_, rfl, rfl⟩, ⟨_, rfl, rfl⟩, ⟨_, rfl, rfl⟩⟩
theorem witness_PortZeroHoldsTheLastDecimal : (machineAt 2 [0xD3, 0x00] 0).ports.read 0 = lastDecimal (machineAt 2 [0xD3, 0x00] 0).out ∧
    ∃ t, step (machineAt 2 [0xD3, 0x00] 0) = .next t := ⟨rfl, _, rfl⟩

/-- A state, other than that after reset, of which everything that the invariants say holds. -/
theorem witness_reached : State.Reached { v8 with ports := [(3, 0x2A)], out := [.status 0 0x000E 0x46 true] } where
  memCanonical := by decide
  memInside := by decide
  portsCanonical := by decide
  portsInside := by decide
  reservedBits := by decide
  faultRecord := by intro _ _ _ h; cases h
  pcBound := by decide
  spZero := rfl
  events := by decide

/-- A faulted state of which the invariant holds: the record names the pc and the byte there. -/
theorem witness_faulted_inv : State.Inv { machineAt 1 [0x3E] 0 with run := .fault .operandOutOfRange 0x3E 0 } where
  memCanonical := by decide
  memInside := by decide
  portsCanonical := by decide
  portsInside := by decide
  reservedBits := by decide
  faultRecord := by
    intro _ _ _ h
    cases h
    decide

theorem witness_StepKeepsReached : ∃ s t, State.Reached s ∧ step s = .next t :=
  ⟨_, _, witness_reached, rfl⟩
theorem witness_StepKeepsTheInvariant : ∃ s t, State.Inv s ∧ step s = .next t :=
  ⟨_, _, witness_reached.toInv, rfl⟩
theorem witness_RunsNeverWriteMemory : (runLoop 1 (machineAt 1 [0x76] 0)).run ≠ .running := by decide
theorem witness_ControlFlowIgnoresData : SameControl v8 { v8 with regs := ⟨9, 9, 9, 9, 9, 9, 9, 9⟩, f := 0x03, sp := 7 } := ⟨rfl, rfl, rfl, rfl⟩
theorem witness_FullPassRepeatsForever : 0 < 1 ∧ (machineAt 1 [0x00] 0).run = .running ∧ (machineAt 1 [0x00] 0).fetchAddr = 0 ∧
    (runLoop 1 (machineAt 1 [0x00] 0)).run = .running ∧ (runLoop 1 (machineAt 1 [0x00] 0)).fetchAddr = 0 := by decide
theorem witness_FirstPassDecidesTermination : (machineAt 1 [0x76] 0).run = .running ∧ (machineAt 1 [0x76] 0).fetchAddr = 0 := by decide
theorem witness_ImageIsLoadedVerbatim : 1 ≤ 1 ∧ 1 ≤ 65536 ∧ 65536 ≤ 65536 := by decide

/-- A machine is built at both ends of the range, and none just outside: the hypotheses of
ConstructedMachinesAreReached, ResetClearsRegistersAndFlags and ConstructionGivesResetOrAnError. -/
theorem witness_constructions : (∃ s, State.construct 1 (some [0x76, 0x00]) = .ok s) ∧
    (∃ s, State.construct 65536 (some []) = .ok s) ∧
    State.construct 0 (some []) = .error .memSizeOutOfRange ∧
    State.construct 65537 (some []) = .error .memSizeOutOfRange :=
  ⟨⟨_, rfl⟩, ⟨_, rfl⟩, rfl, rfl⟩

end Sys2Proof.Tests
end

/-! PROOFS, family 10_state. First the rules that several obligations share: what a row of each family
does to the state, what any instruction can do (`exec_next_cases`), which byte is HLT. -/

namespace Sys2Proof.Machine

/-! ## The rows of a family run one operation -/

/-- A MOV row copies the source slot to the destination slot (R150). -/
theorem exec_mov {dst src : Reg} {i : Instr} (h : Instr.mov dst src = some i) (s : State) :
    exec i s = .next (moveReg dst src s) := by
  cases dst <;> cases src <;> cases h <;> rfl

/-- An MVI row writes its immediate to the destination slot (R151). -/
theorem exec_mvi (dst : Reg) (n : Byte) (s : State) : exec (Instr.mvi dst n) s = .next (s.setReg dst n) := by
  cases dst <;> rfl

/-- A write of one slot and of the flag register touches nothing else. -/
theorem setReg_setF_keeps (s : State) (r : Reg) (v f : Byte) : KeepsRest s ((s.setReg r v).setF f) :=
  ⟨rfl, rfl, rfl, rfl, rfl, rfl, rfl⟩

/-- Every accumulator row writes A and a flag byte of the flag engine and nothing else; a compare
writes to A what A held. -/
theorem exec_alu_writes (op : AluOp) (src : Operand) (s : State) :
    ∃ v r ac cy, exec (Instr.alu op src) s = .next ((s.setReg .a v).setF (flagsOf r ac cy)) ∧
      (op = .cmp → v = s.regs.a) := by
  rw [exec_alu]
  cases op with
  | cmp => exact ⟨s.regs.a, _, _, _, rfl, fun _ => rfl⟩
  | add | adc | sub | sbb | ana | xra | ora => exact ⟨_, _, _, _, rfl, nofun⟩

/-! ## What any instruction can do -/

/-- The inversion of a meaning: HLT sets the run state, OUT writes a port and may emit, and every other
instruction writes registers and flags only, the flags with the reserved bits at their constants. -/
theorem exec_next_cases {i : Instr} {s t : State} (h : exec i s = .next t) :
    (i = .hlt ∧ t = s.setRun .halted) ∨
    (∃ p, i = .out p ∧ t = (s.portWrite p s.regs.a).emitOpt (portEvent p s)) ∨
    (KeepsRest s t ∧ (t.f = s.f ∨ t.f &&& 0x2A = 0x02)) := by
  have aluCase : ∀ op src, exec (Instr.alu op src) s = .next t → KeepsRest s t ∧ t.f &&& 0x2A = 0x02 := by
    intro op src ha
    obtain ⟨v, r, ac, cy, hw, -⟩ := exec_alu_writes op src s
    cases hw.symm.trans ha
    exact ⟨setReg_setF_keeps .., flagsOf_reserved ..⟩
  obtain rfl | rfl | ⟨p, rfl⟩ | ⟨dst, src, hi⟩ | ⟨dst, n, rfl⟩ | ⟨dst, rfl⟩ | ⟨dst, rfl⟩ | ⟨op, src, rfl⟩ |
    ⟨op, n, rfl⟩ := instr_by_family i
  · cases h; exact .inr (.inr ⟨.refl s, .inl rfl⟩)
  · cases h; exact .inl ⟨rfl, rfl⟩
  · cases h; exact .inr (.inl ⟨p, rfl, rfl⟩)
  · cases (exec_mov hi s).symm.trans h
    exact .inr (.inr ⟨moveReg_keeps .., .inl rfl⟩)
  · cases (exec_mvi dst n s).symm.trans h
    exact .inr (.inr ⟨setReg_keeps .., .inl rfl⟩)
  · cases (exec_inr dst s).symm.trans h
    exact .inr (.inr ⟨incReg_keeps .., .inr (flagsOf_reserved ..)⟩)
  · cases (exec_dcr dst s).symm.trans h
    exact .inr (.inr ⟨decReg_keeps .., .inr (flagsOf_reserved ..)⟩)
  · exact .inr (.inr ((aluCase op _ h).imp_right .inr))
  · exact .inr (.inr ((aluCase op _ h).imp_right .inr))

/-- No instruction writes memory (R53). -/
theorem exec_mem {i : Instr} {s t : State} (h : exec i s = .next t) : t.mem = s.mem := by
  obtain ⟨-, rfl⟩ | ⟨p, -, rfl⟩ | ⟨hk, -⟩ := exec_next_cases h
  · rfl
  · rfl
  · exact hk.mem

/-- Only HLT writes the run state (R36, R227). -/
theorem exec_run {i : Instr} {s t : State} (h : exec i s = .next t) :
    t.run = s.run ∨ (i = .hlt ∧ t.run = .halted) := by
  obtain ⟨hi, rfl⟩ | ⟨p, -, rfl⟩ | ⟨hk, -⟩ := exec_next_cases h
  · exact .inr ⟨hi, rfl⟩
  · exact .inl rfl
  · exact .inl hk.run

/-- What an instruction does is the same whatever memory holds (R23). -/
theorem exec_setMem {i : Instr} {s t : State} (m : Memory) (h : exec i s = .next t) :
    exec i (s.setMem m) = .next (t.setMem m) := by
  have aluCase : ∀ op src, exec (Instr.alu op src) s = .next t →
      exec (Instr.alu op src) (s.setMem m) = .next (t.setMem m) := by
    intro op src ha
    rw [exec_alu] at ha ⊢
    cases ha
    cases src <;> cases op <;> rfl
  obtain rfl | rfl | ⟨p, rfl⟩ | ⟨dst, src, hi⟩ | ⟨dst, n, rfl⟩ | ⟨dst, rfl⟩ | ⟨dst, rfl⟩ | ⟨op, src, rfl⟩ |
    ⟨op, n, rfl⟩ := instr_by_family i
  · cases h; rfl
  · cases h; rfl
  · cases h; rfl
  · rw [exec_mov hi] at h ⊢; cases h; rfl
  · rw [exec_mvi] at h ⊢; cases h; rfl
  · rw [exec_inr] at h ⊢; cases h; rfl
  · rw [exec_dcr] at h ⊢; cases h; rfl
  · exact aluCase op _ h
  · exact aluCase op _ h

/-! ## Which byte is HLT -/

theorem mov_ne_hlt (dst src : Reg) : Instr.mov dst src ≠ some .hlt := by
  cases dst <;> cases src <;> nofun

theorem mvi_ne_hlt (dst : Reg) (n : Byte) : Instr.mvi dst n ≠ .hlt := by cases dst <;> nofun

theorem inr_ne_hlt (dst : Reg) : Instr.inr dst ≠ .hlt := by cases dst <;> nofun

theorem dcr_ne_hlt (dst : Reg) : Instr.dcr dst ≠ .hlt := by cases dst <;> nofun

theorem alu_ne_hlt (op : AluOp) (src : Operand) : Instr.alu op src ≠ .hlt := by
  cases src with
  | reg r => cases op <;> cases r <;> nofun
  | imm n => cases op <;> nofun

/-- What the entry of an opcode can be: the families of R77 to R79, with the byte of a family of one row. -/
inductive OpcodeRow (op : Byte) : Entry → Prop where
  | invalid : OpcodeRow op .invalid
  | nop : op = 0x00 → OpcodeRow op (.one .nop)
  | hlt : op = 0x76 → OpcodeRow op (.one .hlt)
  | mov (dst src i) : Instr.mov dst src = some i → OpcodeRow op (.one i)
  | alu (ooo src) : OpcodeRow op (.one (Instr.alu ooo (.reg src)))
  | inr (dst) : OpcodeRow op (.one (Instr.inr dst))
  | dcr (dst) : OpcodeRow op (.one (Instr.dcr dst))
  | mvi (dst) : OpcodeRow op (.two (Instr.mvi dst))
  | aluImm (ooo) : OpcodeRow op (.two fun n => Instr.alu ooo (.imm n))
  | out : op = 0xD3 → OpcodeRow op (.two .out)

theorem OpcodeRow.ofOption_mov (op : Byte) (dst src : Reg) : OpcodeRow op (.ofOption (Instr.mov dst src)) := by
  cases h : Instr.mov dst src with
  | none => exact .invalid
  | some i => exact .mov dst src i h

/-- Every entry of the opcode table is one of the rows, test by test of R79. -/
theorem opcodeTable_row (op : Byte) : OpcodeRow op (opcodeTable op) := by
  unfold opcodeTable
  refine iteInduction .nop fun _ => ?_
  refine iteInduction .hlt fun _ => ?_
  refine iteInduction (fun _ => .ofOption_mov ..) fun _ => ?_
  refine iteInduction (fun _ => .alu ..) fun _ => ?_
  refine iteInduction (fun _ => .inr _) fun _ => ?_
  refine iteInduction (fun _ => .dcr _) fun _ => ?_
  refine iteInduction (fun _ => .mvi _) fun _ => ?_
  refine iteInduction (fun _ => .aluImm _) fun _ => ?_
  exact iteInduction .out fun _ => .invalid

/-- HLT has one opcode byte, 0x76 (D2, log 4). -/
theorem opcodeTable_one_hlt {op : Byte} (h : opcodeTable op = .one .hlt) : op = 0x76 := by
  have row := opcodeTable_row op
  generalize opcodeTable op = entry at h row
  cases row with
  | hlt hop => exact hop
  | mov dst src i hi => cases h; exact (mov_ne_hlt dst src hi).elim
  | alu ooo src => exact (alu_ne_hlt ooo (.reg src) (Entry.one.inj h)).elim
  | inr dst => exact (inr_ne_hlt dst (Entry.one.inj h)).elim
  | dcr dst => exact (dcr_ne_hlt dst (Entry.one.inj h)).elim
  | invalid | nop | mvi | aluImm | out => cases h

/-- No instruction of width 2 is HLT. -/
theorem opcodeTable_two_ne_hlt {op : Byte} {build : Byte → Instr} (h : opcodeTable op = .two build) (n : Byte) :
    build n ≠ .hlt := by
  have row := opcodeTable_row op
  generalize opcodeTable op = entry at h row
  cases row with
  | mvi dst => cases h; exact mvi_ne_hlt dst n
  | aluImm ooo => cases h; exact alu_ne_hlt ooo (.imm n)
  | out => cases h; nofun
  | invalid | nop | hlt | mov | alu | inr | dcr => cases h

/-- A fetch gives HLT only from the byte 0x76. -/
theorem fetch_hlt {s : State} (h : s.fetch = .ok .hlt) : s.opcodeAtPc = 0x76 := by
  obtain ⟨hop, -⟩ | ⟨build, hop, -, -, hb⟩ := fetch_ok_cases s .hlt h
  · exact opcodeTable_one_hlt hop
  · exact (opcodeTable_two_ne_hlt hop _ hb.symm).elim

/-! ## The invariant, one rule per state operation -/

/-- Registers and flags may change, the flags with the reserved bits at their constants. -/
theorem State.Inv.keepsRest {s t : State} (h : s.Inv) (hk : KeepsRest s t)
    (hf : t.f = s.f ∨ t.f &&& 0x2A = 0x02) : t.Inv where
  memCanonical := by rw [hk.mem]; exact h.memCanonical
  memInside := by rw [hk.mem, State.memSize, hk.memTop]; exact h.memInside
  portsCanonical := by rw [hk.ports]; exact h.portsCanonical
  portsInside := by rw [hk.ports]; exact h.portsInside
  reservedBits := hf.elim (fun e => e ▸ h.reservedBits) id
  faultRecord := by rw [hk.run, hk.pc, hk.mem, hk.memTop, State.memSize, hk.memTop]; exact h.faultRecord

/-- The run state may become one that records no fault. -/
theorem State.Inv.setRun {s : State} (h : s.Inv) {r : RunState} (hr : ∀ c op a, r ≠ .fault c op a) :
    (s.setRun r).Inv :=
  { memCanonical := h.memCanonical, memInside := h.memInside, portsCanonical := h.portsCanonical,
    portsInside := h.portsInside, reservedBits := h.reservedBits,
    faultRecord := fun c op a e => absurd e (hr c op a) }

/-- The pc of a state without a fault record may change. -/
theorem State.Inv.setPc {s : State} (h : s.Inv) (hr : ∀ c op a, s.run ≠ .fault c op a) (v : Word) :
    (s.setPc v).Inv :=
  { memCanonical := h.memCanonical, memInside := h.memInside, portsCanonical := h.portsCanonical,
    portsInside := h.portsInside, reservedBits := h.reservedBits,
    faultRecord := fun c op a e => absurd e (hr c op a) }

/-- A port write keeps the ports canonical and inside the 256 port numbers. -/
theorem State.Inv.portWrite {s : State} (h : s.Inv) (p v : Byte) : (s.portWrite p v).Inv :=
  { memCanonical := h.memCanonical, memInside := h.memInside
    portsCanonical := Memory.wf_write _ _ _ h.portsCanonical
    portsInside := by
      have hin := h.portsInside
      simp only [List.all_eq_true, decide_eq_true_eq] at hin ⊢
      intro c hc
      obtain rfl | hc := Memory.mem_write _ _ _ c hc
      · exact p.isLt
      · exact hin c hc
    reservedBits := h.reservedBits, faultRecord := h.faultRecord }

theorem State.Inv.emitOpt {s : State} (h : s.Inv) (e : Option Event) : (s.emitOpt e).Inv :=
  { memCanonical := h.memCanonical, memInside := h.memInside, portsCanonical := h.portsCanonical,
    portsInside := h.portsInside, reservedBits := h.reservedBits, faultRecord := h.faultRecord }

/-- An operand beyond memory is missed only in the last byte of memory (R222). -/
theorem State.eq_memTop_of_memSize_le {s : State} {a : Word} (hin : a.toNat < s.memSize)
    (hlast : s.memSize ≤ a.toNat + 1) : a = s.memTop := by
  apply BitVec.eq_of_toNat_eq
  unfold State.memSize at hin hlast
  omega

/-- Recording the fault of a fetch inside memory keeps the invariant: the record is true (R221, R222). -/
theorem State.Inv.raiseFault {s : State} (h : s.Inv) (hin : s.pc.toNat < s.memSize) {c : FaultReason}
    (hc : s.fetch = .error c) : (s.raiseFault c s.opcodeAtPc).Inv :=
  { memCanonical := h.memCanonical, memInside := h.memInside, portsCanonical := h.portsCanonical,
    portsInside := h.portsInside, reservedBits := h.reservedBits
    faultRecord := by
      intro c' op a hrun
      cases hrun
      refine ⟨rfl, hin, rfl, ?_⟩
      obtain ⟨rfl, hw⟩ | ⟨rfl, hw, hlast⟩ := fetch_error_cases s c hc
      · exact hw
      · exact ⟨hw, State.eq_memTop_of_memSize_le hin hlast⟩ }

/-- Every instruction keeps the invariant, in every run state. -/
theorem State.Inv.exec {i : Instr} {s t : State} (h : s.Inv) (he : exec i s = .next t) : t.Inv := by
  obtain ⟨-, rfl⟩ | ⟨p, -, rfl⟩ | ⟨hk, hf⟩ := exec_next_cases he
  · exact h.setRun nofun
  · exact (h.portWrite p _).emitOpt _
  · exact h.keepsRest hk hf

/-- An instruction of a running machine records no fault (R220). -/
theorem exec_not_faulted {i : Instr} {s t : State} (hr : s.run = .running) (he : exec i s = .next t) :
    ∀ c op a, t.run ≠ .fault c op a := by
  intro c op a
  obtain hrun | ⟨-, hrun⟩ := exec_run he
  · rw [hrun, hr]; nofun
  · rw [hrun]; nofun

/-- Settles O49: the wrap, the fault record, the execution and the advance each keep the invariant. -/
theorem stepKeepsTheInvariant : Obligations.StepKeepsTheInvariant := by
  intro s t hs hstep
  obtain ⟨hrun, hcases⟩ := step_next_cases s t hstep
  have hwrap : s.wrapPc.Inv := hs.setPc (by rw [hrun]; nofun) _
  obtain ⟨c, hc, rfl⟩ | ⟨i, u, -, hu, rfl⟩ := hcases
  · exact hwrap.raiseFault s.fetchAddr_lt hc
  · exact (hwrap.exec hu).setPc (exec_not_faulted (s := s.wrapPc) hrun hu) _

/-! ## Frames -/

/-- Settles O24, from the shape of an accumulator row's effect. -/
theorem accumulatorOperationFrame : Obligations.AccumulatorOperationFrame := by
  intro op src s t h
  obtain ⟨v, r, ac, cy, hw, hcmp⟩ := exec_alu_writes op src s
  cases hw.symm.trans h
  exact ⟨(setReg_setF_keeps ..).same, fun r hr => Regs.get_set_other _ _ _ _ hr, hcmp,
    flagsOf_reserved ..⟩

/-- Settles O25: MOV and MVI each are one write of the destination slot. -/
theorem moveFrame : Obligations.MoveFrame := by
  constructor
  · intro dst src i hi s t h
    cases (exec_mov hi s).symm.trans h
    exact ⟨(moveReg_keeps ..).same, moveReg_f .., fun r hr => Regs.get_set_other _ _ _ _ hr⟩
  · intro dst n s t h
    cases (exec_mvi dst n s).symm.trans h
    exact ⟨(setReg_keeps ..).same, rfl, fun r hr => Regs.get_set_other _ _ _ _ hr⟩

/-- A sum without carry-in is the machine sum of bytes (R130). -/
theorem addResult_false (a b : Byte) : addResult a b false = a + b := by
  apply BitVec.eq_of_toNat_eq
  rw [addResult_toNat, BitVec.toNat_add, Bool.toNat_false, Nat.add_zero]

/-- Settles O29: an instruction neither reads nor writes memory, and the M forms act on slot 6. -/
theorem slotMIsNeverAnAddress : Obligations.SlotMIsNeverAnAddress := by
  refine ⟨fun i s t m h => ⟨exec_setMem m h, exec_mem h⟩, fun s => exec_mov (dst := .a) (src := .m) rfl s,
    fun n s => exec_mvi .m n s, ?_, ?_⟩
  · intro s t h
    cases (exec_alu .add (.reg .m) s).symm.trans h
    exact ⟨addResult_false .., rfl⟩
  · intro s t h
    cases (exec_inr .m s).symm.trans h
    exact addResult_false ..

/-! ## Bytes by address -/

/-- Settles O36, from the read laws and the form law of Laws/Memory. -/
theorem readAfterWriteOfBytes : Obligations.ReadAfterWriteOfBytes := by
  intro m a b v
  refine ⟨?_, Memory.wf_write m a v⟩
  split
  · next hb => rw [hb, Memory.read_write_same]
  · next hb => exact Memory.read_write_other m a b v hb

/-! ## The run state -/

/-- Settles O43: a step ends in the fault its fetch met, or in what the instruction does to the run state. -/
theorem onlyHltAndFaultsLeaveRunning : Obligations.OnlyHltAndFaultsLeaveRunning := by
  intro s t hstep
  obtain ⟨hrun, hcases⟩ := step_next_cases s t hstep
  obtain ⟨c, hc, rfl⟩ | ⟨i, u, hi, hu, rfl⟩ := hcases
  · obtain ⟨rfl, hw⟩ | ⟨rfl, hw, hlast⟩ := fetch_error_cases _ c hc
    · exact .inr (.inr (.inl ⟨rfl, hw⟩))
    · exact .inr (.inr (.inr ⟨rfl, hw, Nat.le_antisymm s.fetchAddr_lt hlast⟩))
  · obtain hkeep | ⟨rfl, hhalt⟩ := exec_run hu
    · exact .inl (hkeep.trans hrun)
    · exact .inr (.inl ⟨hhalt, fetch_hlt hi⟩)

/-! ## Flags, registers and reset -/

/-- The reserved bits of a packed flag byte, one by one (R26). -/
theorem pack_reserved_bits (s z ac p cy : Bool) :
    (pack s z ac p cy).getLsbD 1 = true ∧ (pack s z ac p cy).getLsbD 3 = false ∧
      (pack s z ac p cy).getLsbD 5 = false := by
  cases s <;> cases z <;> cases ac <;> cases p <;> cases cy <;> decide

/-- The flag byte 0x02 has all five flags at 0 (R30). -/
theorem flags_of_reset_byte : flagS 0x02 = false ∧ flagZ 0x02 = false ∧ flagAC 0x02 = false ∧
    flagP 0x02 = false ∧ flagCY 0x02 = false := by decide

/-- Settles O11, from the laws of the packed flag byte. -/
theorem flagByteLayout : Obligations.FlagByteLayout :=
  ⟨pack_toNat,
    fun s z ac p cy => ⟨flagS_pack .., flagZ_pack .., flagAC_pack .., flagP_pack .., flagCY_pack ..,
      pack_reserved_bits s z ac p cy⟩,
    rfl, flags_of_reset_byte⟩

/-- Settles O34: the views are computed from the halves, each as a number by `pairOf_toNat`. -/
theorem pairViewsFollowTheirHalves : Obligations.PairViewsFollowTheirHalves :=
  ⟨fun _ => ⟨pairOf_toNat .., pairOf_toNat .., pairOf_toNat ..⟩, rfl, rfl, rfl⟩

/-- Settles O35, from the read-after-write laws of the register file. -/
theorem registerFileHoldsWhatWasWritten : Obligations.RegisterFileHoldsWhatWasWritten := by
  refine ⟨fun r i j v => ?_, fun _ => rfl, fun _ => rfl⟩
  split
  · next hj => rw [hj, Regs.get_set_same]
  · next hj => exact Regs.get_set_other r i j v hj

/-- A machine that construction gives has the registers and the flag byte of `State.reset` (R25, R30). -/
theorem construct_regs_f {memSize : Nat} {image : Option (List Byte)} {s : State}
    (h : State.construct memSize image = .ok s) : s.regs = State.reset.regs ∧ s.f = State.reset.f := by
  unfold State.construct at h
  split at h
  · cases h
  · split at h
    · cases h; exact ⟨rfl, rfl⟩
    · cases h

/-- Settles O56: construction starts from the registers and the flag byte of `State.reset`. -/
theorem resetClearsRegistersAndFlags : Obligations.ResetClearsRegistersAndFlags := by
  refine ⟨⟨rfl, rfl⟩, fun memSize image s h => ?_⟩
  obtain ⟨hregs, hf⟩ := construct_regs_f h
  rw [hregs, hf]
  exact ⟨fun r => by cases r <;> rfl, rfl, flags_of_reset_byte⟩

end Sys2Proof.Machine

/-! PROOFS, family 20_memory. What no instruction and no step writes (`KeepsMemory`), that every
instruction and every running step completes, and the rules of the run loop. -/

namespace Sys2Proof.Machine

/-! ## Every instruction completes -/

/-- Every instruction has a meaning in every state: each family runs an operation that answers a next
state (R227). -/
theorem exec_completes (i : Instr) (s : State) : ∃ t, exec i s = .next t := by
  obtain rfl | rfl | ⟨p, rfl⟩ | ⟨dst, src, hi⟩ | ⟨dst, n, rfl⟩ | ⟨dst, rfl⟩ | ⟨dst, rfl⟩ | ⟨op, src, rfl⟩ |
    ⟨op, n, rfl⟩ := instr_by_family i
  · exact ⟨_, rfl⟩
  · exact ⟨_, rfl⟩
  · exact ⟨_, rfl⟩
  · exact ⟨_, exec_mov hi s⟩
  · exact ⟨_, exec_mvi dst n s⟩
  · exact ⟨_, exec_inr dst s⟩
  · exact ⟨_, exec_dcr dst s⟩
  · exact ⟨_, exec_alu op (.reg src) s⟩
  · exact ⟨_, exec_alu op (.imm n) s⟩

/-- A running machine always steps: a fetch that faults is recorded as the next state (R100, R227). -/
theorem step_completes {s : State} (h : s.run = .running) : ∃ t, step s = .next t := by
  cases hf : s.wrapPc.fetch with
  | error c => exact ⟨_, step_fetch_error s c h hf⟩
  | ok i =>
    obtain ⟨u, hu⟩ := exec_completes i s.wrapPc
    exact ⟨_, step_executes s u i h hf hu⟩

/-! ## What no instruction and no step writes -/

/-- From `s` to `t` memory, its capacity and the stack pointer are unchanged (R34, R53). -/
structure KeepsMemory (s t : State) : Prop where
  mem : t.mem = s.mem
  memTop : t.memTop = s.memTop
  sp : t.sp = s.sp

theorem KeepsMemory.refl (s : State) : KeepsMemory s s := ⟨rfl, rfl, rfl⟩

theorem KeepsMemory.trans {s t u : State} (h : KeepsMemory s t) (h' : KeepsMemory t u) : KeepsMemory s u :=
  ⟨h'.mem.trans h.mem, h'.memTop.trans h.memTop, h'.sp.trans h.sp⟩

theorem exec_keepsMemory {i : Instr} {s t : State} (h : exec i s = .next t) : KeepsMemory s t := by
  obtain ⟨-, rfl⟩ | ⟨p, -, rfl⟩ | ⟨hk, -⟩ := exec_next_cases h
  · exact ⟨rfl, rfl, rfl⟩
  · exact ⟨rfl, rfl, rfl⟩
  · exact ⟨hk.mem, hk.memTop, hk.sp⟩

/-- No instruction writes the pc: the advance belongs to the step (R106). -/
theorem exec_pc {i : Instr} {s t : State} (h : exec i s = .next t) : t.pc = s.pc := by
  obtain ⟨-, rfl⟩ | ⟨p, -, rfl⟩ | ⟨hk, -⟩ := exec_next_cases h
  · rfl
  · rfl
  · exact hk.pc

theorem step_keepsMemory {s t : State} (h : step s = .next t) : KeepsMemory s t := by
  obtain ⟨-, ⟨c, -, rfl⟩ | ⟨i, u, -, hu, rfl⟩⟩ := step_next_cases s t h
  · exact ⟨rfl, rfl, rfl⟩
  · obtain ⟨hmem, htop, hsp⟩ := exec_keepsMemory hu
    exact ⟨hmem, htop, hsp⟩

/-- Settles O28, in terminal states as in running ones (log 15). -/
theorem everyInstructionCompletes : Obligations.EveryInstructionCompletes := by
  intro i s
  obtain ⟨t, ht⟩ := exec_completes i s
  obtain ⟨hmem, htop, hsp⟩ := exec_keepsMemory ht
  refine ⟨t, ht, hmem, htop, hsp, exec_pc ht, fun hne => ?_⟩
  exact (exec_run ht).resolve_right fun hhlt => hne hhlt.1

/-! ## The run loop -/

/-- Once the machine has stopped, further steps change nothing (D19). -/
theorem runLoop_stopped {s : State} (h : s.run ≠ .running) (n : Nat) : runLoop n s = s := by
  cases n with
  | zero => rfl
  | succ n => exact if_neg h

/-- A run of one step more takes the step first. -/
theorem runLoop_succ {s t : State} (h : step s = .next t) (n : Nat) : runLoop (n + 1) s = runLoop n t := by
  obtain ⟨hrun, -⟩ := step_next_cases s t h
  rw [runLoop, if_pos hrun, h]

/-- A run of `n + k` steps is a run of `n` steps and then one of `k` (R100). -/
theorem runLoop_add (n k : Nat) (s : State) : runLoop (n + k) s = runLoop k (runLoop n s) := by
  induction n generalizing s with
  | zero => rw [Nat.zero_add]; rfl
  | succ n ih =>
    by_cases hrun : s.run = .running
    · obtain ⟨t, ht⟩ := step_completes hrun
      rw [Nat.succ_add, runLoop_succ ht, runLoop_succ ht, ih]
    · rw [runLoop_stopped hrun, runLoop_stopped hrun, runLoop_stopped hrun]

/-- What every step keeps, every run keeps. -/
theorem runLoop_keeps {P : State → Prop} (hstep : ∀ s t, P s → step s = .next t → P t) (n : Nat) {s : State}
    (hs : P s) : P (runLoop n s) := by
  induction n generalizing s with
  | zero => exact hs
  | succ n ih =>
    by_cases hrun : s.run = .running
    · obtain ⟨t, ht⟩ := step_completes hrun
      rw [runLoop_succ ht]
      exact ih (hstep s t hs ht)
    · rw [runLoop_stopped hrun]
      exact hs

theorem runLoop_keepsMemory (n : Nat) (s : State) : KeepsMemory s (runLoop n s) :=
  runLoop_keeps (P := KeepsMemory s) (fun _ _ hs ht => hs.trans (step_keepsMemory ht)) n (.refl s)

/-- Settles O52: the frame of a step carried along the run, and a stopped run run on from where it stopped. -/
theorem runsNeverWriteMemory : Obligations.RunsNeverWriteMemory := by
  intro n k s
  obtain ⟨hmem, htop, hsp⟩ := runLoop_keepsMemory n s
  refine ⟨hmem, hsp, htop, fun hstop => ?_⟩
  rw [runLoop_add, runLoop_stopped hstop]

end Sys2Proof.Machine

/-! PROOFS, family 30_encoding. The bytes of a family's rows and the table entries at those bytes, both by
the fields of R72 to R74; from them decoding and encoding are inverse, and what decoding refuses. -/

namespace Sys2Proof

/-! ## The bytes of a family's rows -/

theorem encode_mov {dst src : Reg} {i : Instr} (h : Instr.mov dst src = some i) :
    encode i = [BitVec.ofNat 8 (0x40 + 8 * dst.index + src.index)] := by
  cases dst <;> cases src <;> cases h <;> rfl

theorem encode_mvi (dst : Reg) (n : Byte) :
    encode (Instr.mvi dst n) = [BitVec.ofNat 8 (0x06 + 8 * dst.index), n] := by
  cases dst <;> rfl

theorem encode_inr (dst : Reg) : encode (Instr.inr dst) = [BitVec.ofNat 8 (0x04 + 8 * dst.index)] := by
  cases dst <;> rfl

theorem encode_dcr (dst : Reg) : encode (Instr.dcr dst) = [BitVec.ofNat 8 (0x05 + 8 * dst.index)] := by
  cases dst <;> rfl

theorem encode_alu_reg (op : AluOp) (src : Reg) :
    encode (Instr.alu op (.reg src)) = [BitVec.ofNat 8 (0x80 + 8 * op.index + src.index)] := by
  cases op <;> cases src <;> rfl

theorem encode_alu_imm (op : AluOp) (n : Byte) :
    encode (Instr.alu op (.imm n)) = [BitVec.ofNat 8 (0xC6 + 8 * op.index), n] := by
  cases op <;> rfl

/-- Settles O5: each clause is the byte lemma of its family. -/
theorem encodingsPlaceTheFields : Obligations.EncodingsPlaceTheFields :=
  ⟨fun _ _ _ => encode_mov, encode_mvi, encode_inr, encode_dcr, encode_alu_reg, encode_alu_imm,
    fun _ => rfl, rfl, rfl⟩

/-! ## The table entries at those bytes -/

theorem opcodeTable_mov {dst src : Reg} {i : Instr} (h : Instr.mov dst src = some i) :
    opcodeTable (BitVec.ofNat 8 (0x40 + 8 * dst.index + src.index)) = .one i := by
  cases dst <;> cases src <;> cases h <;> rfl

theorem opcodeTable_mvi (dst : Reg) :
    opcodeTable (BitVec.ofNat 8 (0x06 + 8 * dst.index)) = .two (Instr.mvi dst) := by
  cases dst <;> rfl

theorem opcodeTable_inr (dst : Reg) :
    opcodeTable (BitVec.ofNat 8 (0x04 + 8 * dst.index)) = .one (Instr.inr dst) := by
  cases dst <;> rfl

theorem opcodeTable_dcr (dst : Reg) :
    opcodeTable (BitVec.ofNat 8 (0x05 + 8 * dst.index)) = .one (Instr.dcr dst) := by
  cases dst <;> rfl

theorem opcodeTable_alu_reg (op : AluOp) (src : Reg) :
    opcodeTable (BitVec.ofNat 8 (0x80 + 8 * op.index + src.index)) = .one (Instr.alu op (.reg src)) := by
  cases op <;> cases src <;> rfl

theorem opcodeTable_alu_imm (op : AluOp) :
    opcodeTable (BitVec.ofNat 8 (0xC6 + 8 * op.index)) = .two fun n => Instr.alu op (.imm n) := by
  cases op <;> rfl

/-! ## The fields of a byte -/

/-- A slot's field holds its index (R73). -/
theorem Reg.index_ofField : ∀ bits : BitVec 3, (Reg.ofField bits).index = bits.toNat := by decide

/-- An operation's selector holds its index (R74). -/
theorem AluOp.index_ofField : ∀ bits : BitVec 3, (AluOp.ofField bits).index = bits.toNat := by decide

/-- A byte is its three fields, in the places R72 draws them. -/
theorem ofNat_fields {op : Byte} {q : BitVec 2} {m l : Nat} (hq : quadrantField op = q)
    (hm : m = (middleField op).toNat) (hl : l = (lowField op).toNat) :
    BitVec.ofNat 8 (64 * q.toNat + 8 * m + l) = op := by
  subst hq hm hl
  apply BitVec.eq_of_toNat_eq
  simp only [quadrantField, middleField, lowField, BitVec.extractLsb'_toNat, BitVec.toNat_ofNat,
    Nat.shiftRight_eq_div_pow]
  omega

/-- A byte with the quadrant and the low field of a row is the row's base plus its middle field. -/
theorem ofNat_middle {op : Byte} {q : BitVec 2} {l : BitVec 3} {m : Nat}
    (h : quadrantField op = q ∧ lowField op = l) (hm : m = (middleField op).toNat) :
    BitVec.ofNat 8 (64 * q.toNat + l.toNat + 8 * m) = op := by
  obtain ⟨hq, hl⟩ := h
  rw [Nat.add_right_comm, ofNat_fields hq hm (congrArg BitVec.toNat hl.symm)]

/-! ## The table and the encoder agree -/

/-- The instruction a table entry stands for has the entry's opcode as its first byte, and the operand
byte, where there is one, as its second (R57, R70). -/
def Entry.EncodesAt (op : Byte) : Entry → Prop
  | .invalid => True
  | .one i => encode i = [op]
  | .two build => ∀ n, encode (build n) = [op, n]

theorem Entry.ofOption_mov_encodesAt {op : Byte} (h : quadrantField op = 0b01) :
    (Entry.ofOption (Instr.mov (.ofField (middleField op)) (.ofField (lowField op)))).EncodesAt op := by
  cases hmov : Instr.mov (.ofField (middleField op)) (.ofField (lowField op)) with
  | none => trivial
  | some i =>
    exact (encode_mov hmov).trans
      (congrArg (fun b => [b]) (ofNat_fields h (Reg.index_ofField _) (Reg.index_ofField _)))

/-- Every entry of the opcode table encodes at its opcode, test by test of R79. -/
theorem opcodeTable_encodesAt (op : Byte) : (opcodeTable op).EncodesAt op := by
  unfold opcodeTable
  refine iteInduction (fun h => h ▸ rfl) fun _ => ?_
  refine iteInduction (fun h => h ▸ rfl) fun _ => ?_
  refine iteInduction Entry.ofOption_mov_encodesAt fun _ => ?_
  refine iteInduction (fun h => (encode_alu_reg ..).trans (congrArg (fun b => [b])
    (ofNat_fields h (AluOp.index_ofField _) (Reg.index_ofField _)))) fun _ => ?_
  refine iteInduction (fun h => (encode_inr _).trans (congrArg (fun b => [b])
    (ofNat_middle h (Reg.index_ofField _)))) fun _ => ?_
  refine iteInduction (fun h => (encode_dcr _).trans (congrArg (fun b => [b])
    (ofNat_middle h (Reg.index_ofField _)))) fun _ => ?_
  refine iteInduction (fun h n => (encode_mvi _ n).trans (congrArg (fun b => [b, n])
    (ofNat_middle h (Reg.index_ofField _)))) fun _ => ?_
  refine iteInduction (fun h n => (encode_alu_imm _ n).trans (congrArg (fun b => [b, n])
    (ofNat_middle h (AluOp.index_ofField _)))) fun _ => ?_
  exact iteInduction (fun h n => h ▸ rfl) fun _ => trivial

/-! ## What decoding answers -/

/-- The five things decoding can answer, by the width of the first byte (R79, R81, R105). -/
inductive DecodeCase : List Byte → Except DecodeError (Instr × List Byte) → Prop where
  | noOpcode : DecodeCase [] (.error .noOpcode)
  | invalid {op : Byte} (rest : List Byte) (hw : opcodeWidth op = 0) :
      DecodeCase (op :: rest) (.error (.invalidOpcode op))
  | one {op : Byte} {i : Instr} (rest : List Byte) (hw : opcodeWidth op = 1) (henc : encode i = [op]) :
      DecodeCase (op :: rest) (.ok (i, rest))
  | missing {op : Byte} (hw : opcodeWidth op = 2) : DecodeCase [op] (.error (.operandMissing op))
  | two {op n : Byte} {i : Instr} (rest : List Byte) (hw : opcodeWidth op = 2) (henc : encode i = [op, n]) :
      DecodeCase (op :: n :: rest) (.ok (i, rest))

/-- The inversion of decoding: later proofs split on it and do not unfold `decode`. -/
theorem decode_case (bs : List Byte) : DecodeCase bs (decode bs) := by
  cases bs with
  | nil => exact .noOpcode
  | cons op rest =>
    have henc := opcodeTable_encodesAt op
    have hw : opcodeWidth op = (opcodeTable op).width := rfl
    rw [decode]
    cases he : opcodeTable op with
    | invalid => rw [he] at hw; exact .invalid rest hw
    | one i => rw [he] at hw henc; exact .one rest hw henc
    | two build =>
      rw [he] at hw henc
      cases rest with
      | nil => exact .missing hw
      | cons n rest => exact .two rest hw (henc n)

theorem decode_one {op : Byte} {i : Instr} (h : opcodeTable op = .one i) (rest : List Byte) :
    decode (op :: rest) = .ok (i, rest) := by
  rw [decode, h]

theorem decode_two {op : Byte} {build : Byte → Instr} (h : opcodeTable op = .two build)
    (n : Byte) (rest : List Byte) : decode (op :: n :: rest) = .ok (build n, rest) := by
  rw [decode, h]

/-! ## Decoding and encoding are inverse -/

/-- Decoding an encoding gives the instruction back and leaves the rest, family by family. -/
theorem decode_encode (i : Instr) (rest : List Byte) : decode (encode i ++ rest) = .ok (i, rest) := by
  obtain rfl | rfl | ⟨p, rfl⟩ | ⟨dst, src, hi⟩ | ⟨dst, n, rfl⟩ | ⟨dst, rfl⟩ | ⟨dst, rfl⟩ | ⟨op, src, rfl⟩ |
    ⟨op, n, rfl⟩ := Machine.instr_by_family i
  · rfl
  · rfl
  · rfl
  · rw [encode_mov hi]; exact decode_one (opcodeTable_mov hi) rest
  · rw [encode_mvi]; exact decode_two (opcodeTable_mvi dst) n rest
  · rw [encode_inr]; exact decode_one (opcodeTable_inr dst) rest
  · rw [encode_dcr]; exact decode_one (opcodeTable_dcr dst) rest
  · rw [encode_alu_reg]; exact decode_one (opcodeTable_alu_reg op src) rest
  · rw [encode_alu_imm]; exact decode_two (opcodeTable_alu_imm op) n rest

/-- What decodes is the encoding of what it decodes to, followed by the rest. -/
theorem eq_encode_append_of_decode {bs : List Byte} {i : Instr} {rest : List Byte}
    (h : decode bs = .ok (i, rest)) : bs = encode i ++ rest := by
  have hcase := decode_case bs
  rw [h] at hcase
  cases hcase with
  | one _ _ henc | two _ _ henc => rw [henc]; rfl

/-- Settles O1: decoding inverts encoding, and what decodes is an encoding. -/
theorem decodeInvertsEncode : Obligations.DecodeInvertsEncode :=
  fun _ i rest => ⟨eq_encode_append_of_decode, fun h => h ▸ decode_encode i rest⟩

/-- The bytes of one instruction decode to it with nothing left. -/
theorem decode_of_encode {i : Instr} {bs : List Byte} (h : encode i = bs) : decode bs = .ok (i, []) := by
  rw [← h, ← decode_encode i [], List.append_nil]

/-- Settles O6: the six strings are the encodings of their instructions, and 0xFF has no entry. -/
theorem anchoredBytesDecode : Obligations.AnchoredBytesDecode :=
  ⟨decode_of_encode rfl, decode_of_encode rfl, decode_of_encode rfl, decode_of_encode rfl,
    decode_of_encode rfl, decode_of_encode rfl, rfl⟩

/-- Settles O7: each word is the encoding of the instruction it decodes to. -/
theorem formatsDecodeBitByBit : Obligations.FormatsDecodeBitByBit :=
  ⟨decode_of_encode rfl, decode_of_encode rfl, decode_of_encode rfl, decode_of_encode rfl,
    decode_of_encode rfl, decode_of_encode rfl, decode_of_encode rfl, decode_of_encode rfl,
    decode_of_encode rfl⟩

/-! ## The widths and the byte lists -/

/-- The width of each of the 256 bytes, held against the lists of R80 and R82. -/
theorem opcodeWidth_eq : ∀ op : Byte,
    opcodeWidth op = if op ∈ invalidOpcodes then 0 else if op ∈ twoByteOpcodes then 2 else 1 := by
  decide

/-- Settles O4: the table of widths, and the lengths of its two lists. -/
theorem opcodeWidthsFollowTheLists : Obligations.OpcodeWidthsFollowTheLists :=
  ⟨opcodeWidth_eq, rfl, rfl⟩

theorem opcodeWidth_eq_zero_iff (op : Byte) : opcodeWidth op = 0 ↔ op ∈ invalidOpcodes := by
  rw [opcodeWidth_eq]
  split_ifs with hinv htwo
  · exact iff_of_true rfl hinv
  · exact iff_of_false (by decide) hinv
  · exact iff_of_false (by decide) hinv

/-- No byte is in both lists. -/
theorem not_mem_invalidOpcodes_of_two : ∀ op ∈ twoByteOpcodes, op ∉ invalidOpcodes := by decide

theorem opcodeWidth_eq_two_iff (op : Byte) : opcodeWidth op = 2 ↔ op ∈ twoByteOpcodes := by
  rw [opcodeWidth_eq]
  split_ifs with hinv htwo
  · exact iff_of_false (by decide) fun htwo => not_mem_invalidOpcodes_of_two op htwo hinv
  · exact iff_of_true rfl htwo
  · exact iff_of_false (by decide) htwo

/-! ## What decoding refuses -/

theorem decode_noOpcode_iff (bs : List Byte) : decode bs = .error .noOpcode ↔ bs = [] := by
  constructor
  · intro h
    have hcase := decode_case bs
    rw [h] at hcase
    cases hcase
    rfl
  · rintro rfl; rfl

theorem decode_invalidOpcode_iff (bs : List Byte) (op : Byte) :
    decode bs = .error (.invalidOpcode op) ↔ bs.head? = some op ∧ opcodeWidth op = 0 := by
  have hcase := decode_case bs
  constructor
  · intro h
    rw [h] at hcase
    cases hcase with
    | invalid _ hw => exact ⟨rfl, hw⟩
  · rintro ⟨hhead, hzero⟩
    generalize decode bs = answer at hcase ⊢
    cases hcase with
    | noOpcode => cases hhead
    | invalid => cases hhead; rfl
    | one _ hw | missing hw | two _ hw => cases hhead; cases hw.symm.trans hzero

theorem decode_operandMissing_iff (bs : List Byte) (op : Byte) :
    decode bs = .error (.operandMissing op) ↔ bs = [op] ∧ opcodeWidth op = 2 := by
  constructor
  · intro h
    have hcase := decode_case bs
    rw [h] at hcase
    cases hcase with
    | missing hw => exact ⟨rfl, hw⟩
  · rintro ⟨rfl, htwo⟩
    have hcase := decode_case [op]
    generalize decode [op] = answer at hcase ⊢
    cases hcase with
    | missing => rfl
    | invalid _ hw | one _ hw => cases hw.symm.trans htwo

/-- Settles O3: the refusals by width, and the widths by the lists of R80 and R82. -/
theorem decodeRefusesExactlyByName : Obligations.DecodeRefusesExactlyByName := by
  refine fun bs => ⟨decode_noOpcode_iff bs, fun op => ?_, fun op => ?_⟩
  · rw [← opcodeWidth_eq_zero_iff]; exact decode_invalidOpcode_iff bs op
  · rw [← opcodeWidth_eq_two_iff]; exact decode_operandMissing_iff bs op

/-! ## Well formed strings -/

/-- The checks of R80 to R82 together say that the string has as many bytes as its first byte declares. -/
theorem wellFormedBytes_cons {op : Byte} {rest : List Byte} :
    wellFormedBytes (op :: rest) = true ↔ opcodeWidth op = rest.length + 1 := by
  have hchecks : wellFormedBytes (op :: rest) = true ↔
      op ∉ invalidOpcodes ∧ rest.length + 1 = if op ∈ twoByteOpcodes then 2 else 1 := by
    simp only [wellFormedBytes, hasOpcode, opcodeValid, lengthRight, List.isEmpty_cons, Bool.not_false,
      Bool.true_and, List.head?_cons, Option.all_some, Bool.and_eq_true, Bool.not_eq_true',
      List.contains_eq_mem, decide_eq_true_eq, decide_eq_false_iff_not, beq_iff_eq, List.length_cons]
  rw [hchecks, opcodeWidth_eq]
  by_cases hinv : op ∈ invalidOpcodes
  · rw [if_pos hinv]
    exact iff_of_false (fun h => h.1 hinv) nofun
  · rw [if_neg hinv]
    exact ⟨fun h => h.2.symm, fun h => ⟨hinv, h.symm⟩⟩

/-- Settles O2: a string has its declared number of bytes exactly when it decodes with nothing left. -/
theorem wellFormedBytesAreTheEncodings : Obligations.WellFormedBytesAreTheEncodings := by
  intro bs
  have hcase := decode_case bs
  constructor
  · intro hwf
    generalize decode bs = answer at hcase
    cases hcase with
    | noOpcode => cases hwf
    | invalid _ hw | missing hw => cases hw.symm.trans (wellFormedBytes_cons.mp hwf)
    | one rest hw henc | two rest hw henc =>
      cases rest with
      | nil => exact ⟨_, henc⟩
      | cons => cases hw.symm.trans (wellFormedBytes_cons.mp hwf)
  · rintro ⟨i, henc⟩
    rw [decode_of_encode henc] at hcase
    cases hcase with
    | one _ hw | two _ hw => exact wellFormedBytes_cons.mpr hw

end Sys2Proof

/-! PROOFS, family 40_execution_engine. What the fetch answers by width and by decoding, the two ways a
step can end, where it leaves the pc, and that control flow depends on no data. -/

namespace Sys2Proof.Machine

/-! ## The fetch -/

/-- An opcode of width 0 is an invalid opcode (R104). -/
theorem fetch_of_width_zero {s : State} (h : opcodeWidth s.opcodeAtPc = 0) : s.fetch = .error .invalidOpcode := by
  cases hf : s.fetch with
  | error c =>
    obtain ⟨rfl, -⟩ | ⟨-, hw, -⟩ := fetch_error_cases s c hf
    · rfl
    · cases hw.symm.trans h
  | ok i =>
    obtain ⟨-, hw⟩ | ⟨-, -, hw, -⟩ := fetch_ok_cases s i hf
    · cases hw.symm.trans h
    · cases hw.symm.trans h

/-- A fetched instruction has width 1 or 2 and lies inside memory with all its bytes (R80, R105). -/
theorem fetch_ok_width {s : State} {i : Instr} (h : s.fetch = .ok i) (hin : s.pc.toNat < s.memSize) :
    (opcodeWidth s.opcodeAtPc = 1 ∨ opcodeWidth s.opcodeAtPc = 2) ∧
      s.pc.toNat + opcodeWidth s.opcodeAtPc ≤ s.memSize := by
  obtain ⟨-, hw⟩ | ⟨-, -, hw, hoperand, -⟩ := fetch_ok_cases s i h
  · exact ⟨.inl hw, by rw [hw]; exact hin⟩
  · exact ⟨.inr hw, by rw [hw]; exact hoperand⟩

/-- The bytes at the pc are the opcode byte and, where memory goes on, the byte after it (R50, R70). -/
theorem bytesAtPc_eq (s : State) : s.bytesAtPc =
    s.opcodeAtPc :: if s.pc.toNat + 1 < s.memSize then [s.mem.read (s.pc.toNat + 1)] else [] := by
  unfold State.bytesAtPc
  split
  · rfl
  · rfl

/-- The fetch gives the instruction that the bytes at the pc decode to (R103, R105). -/
theorem fetch_of_decode {s : State} {i : Instr} {rest : List Byte} (h : decode s.bytesAtPc = .ok (i, rest)) :
    s.fetch = .ok i := by
  rw [bytesAtPc_eq] at h
  rw [State.fetch]
  cases he : opcodeTable s.opcodeAtPc with
  | invalid => rw [decode, he] at h; cases h
  | one j => rw [decode_one he] at h; cases h; rfl
  | two build =>
    split at h
    · next hin => rw [decode_two he] at h; cases h; exact if_pos hin
    · rw [decode, he] at h; cases h

/-- A decoded instruction has as many bytes as its opcode declares (R70, S5 of file 95). -/
theorem encode_length_of_decode {op : Byte} {bs rest : List Byte} {i : Instr}
    (h : decode (op :: bs) = .ok (i, rest)) : (encode i).length = opcodeWidth op := by
  have hcase := decode_case (op :: bs)
  rw [h] at hcase
  cases hcase with
  | one _ hw henc | two _ hw henc => rw [henc, hw]; rfl

/-- The fetch reads the pc, memory and its capacity, and nothing else (R103, R105). -/
theorem fetch_congr {s t : State} (hmem : s.mem = t.mem) (htop : s.memTop = t.memTop) (hpc : s.pc = t.pc) :
    s.fetch = t.fetch := by
  unfold State.fetch State.opcodeAtPc State.memSize
  rw [hmem, htop, hpc]

theorem opcodeAtPc_congr {s t : State} (hmem : s.mem = t.mem) (hpc : s.pc = t.pc) :
    s.opcodeAtPc = t.opcodeAtPc := by
  rw [State.opcodeAtPc, hmem, hpc, State.opcodeAtPc]

theorem fetchAddr_congr {s t : State} (htop : s.memTop = t.memTop) (hpc : s.pc = t.pc) :
    s.fetchAddr = t.fetchAddr := by
  unfold State.fetchAddr State.memSize
  rw [htop, hpc]

/-! ## The two ends of a step -/

/-- A step that ends in a fault recorded the fault of its fetch. -/
theorem step_eq_raiseFault {s t : State} (h : step s = .next t) {c : FaultReason} {op : Byte} {a : Word}
    (hf : t.run = .fault c op a) : t = s.wrapPc.raiseFault c op ∧ a = s.fetchAddr := by
  obtain ⟨hrun, ⟨c', -, rfl⟩ | ⟨i, u, -, hu, rfl⟩⟩ := step_next_cases s t h
  · cases hf; exact ⟨rfl, rfl⟩
  · exact (exec_not_faulted (s := s.wrapPc) hrun hu c op a hf).elim

/-- A step that does not end in a fault ran the instruction it fetched. -/
theorem step_executed {s t : State} (h : step s = .next t) (hr : ∀ c op a, t.run ≠ .fault c op a) :
    ∃ i u, s.wrapPc.fetch = .ok i ∧ exec i s.wrapPc = .next u ∧
      t = u.advancePc (opcodeWidth s.wrapPc.opcodeAtPc) := by
  obtain ⟨-, ⟨c, -, rfl⟩ | hexec⟩ := step_next_cases s t h
  · exact (hr _ _ _ rfl).elim
  · exact hexec

/-- The pc after an instruction that was run (R107). -/
theorem step_executed_pc {s t : State} (h : step s = .next t) (hr : ∀ c op a, t.run ≠ .fault c op a) :
    t.pc.toNat = (s.fetchAddr.toNat + opcodeWidth s.wrapPc.opcodeAtPc) % 65536 ∧
      (opcodeWidth s.wrapPc.opcodeAtPc = 1 ∨ opcodeWidth s.wrapPc.opcodeAtPc = 2) ∧
      t.pc.toNat ≤ s.memSize := by
  obtain ⟨i, u, hi, hu, rfl⟩ := step_executed h hr
  obtain ⟨hw, hle⟩ := fetch_ok_width hi s.fetchAddr_lt
  have hpc : (u.advancePc (opcodeWidth s.wrapPc.opcodeAtPc)).pc.toNat =
      (s.fetchAddr.toNat + opcodeWidth s.wrapPc.opcodeAtPc) % 65536 := by
    rw [State.advancePc_pc, exec_pc hu, BitVec.toNat_ofNat, State.wrapPc_pc]
  exact ⟨hpc, hw, hpc ▸ (Nat.mod_le _ _).trans hle⟩

/-- Every step leaves the pc at MEM_SIZE at most (R112). -/
theorem step_pc_le {s t : State} (h : step s = .next t) : t.pc.toNat ≤ s.memSize := by
  cases hr : t.run with
  | fault c op a =>
    obtain ⟨rfl, -⟩ := step_eq_raiseFault h hr
    exact s.fetchAddr_lt.le
  | running | halted => exact (step_executed_pc h (by rw [hr]; nofun)).2.2

/-! ## What holds of every reachable state -/

/-- The wrap of the pc keeps what holds of reachable states. -/
theorem State.Reached.wrapPc {s : State} (h : s.Reached) (hrun : s.run = .running) : s.wrapPc.Reached :=
  { h.toInv.setPc (by rw [hrun]; nofun) _ with
    pcBound := s.fetchAddr_lt.le, spZero := h.spZero, events := h.events }

/-- An OUT of a running machine has an event that the core can emit, if it has one (R203). -/
theorem portEvent_possible {s : State} (h : s.Reached) (hrun : s.run = .running) (hin : s.pc.toNat < s.memSize)
    (p : Byte) : (portEvent p s).toList.all (Event.possible s.memSize) = true := by
  unfold portEvent
  split_ifs
  · rfl
  · rfl
  · rfl
  · simpa [Event.possible, State.runningFlag, hrun, h.spZero, hin] using h.reservedBits
  · rfl

/-- The stream that an instruction of a running machine leaves holds events that the core can emit. -/
theorem exec_events_possible {i : Instr} {s t : State} (h : s.Reached) (hrun : s.run = .running)
    (hin : s.pc.toNat < s.memSize) (he : exec i s = .next t) :
    t.out.all (Event.possible s.memSize) = true := by
  obtain ⟨-, rfl⟩ | ⟨p, -, rfl⟩ | ⟨hk, -⟩ := exec_next_cases he
  · exact h.events
  · rw [State.emitOpt_out, List.all_append, State.portWrite_out, h.events, portEvent_possible h hrun hin p]
    rfl
  · rw [hk.out]; exact h.events

theorem step_events_possible {s t : State} (h : s.Reached) (hstep : step s = .next t) :
    t.out.all (Event.possible s.memSize) = true := by
  obtain ⟨hrun, ⟨c, -, rfl⟩ | ⟨i, u, -, hu, rfl⟩⟩ := step_next_cases s t hstep
  · exact h.events
  · exact exec_events_possible (s := s.wrapPc) (t := u) (h.wrapPc hrun) hrun s.fetchAddr_lt hu

/-- Settles O51: the invariant is O49's, the pc bound the step's, sp is never written, and only OUT emits. -/
theorem stepKeepsReached : Obligations.StepKeepsReached := by
  intro s t hs hstep
  obtain ⟨-, htop, hsp⟩ := step_keepsMemory hstep
  have hsize : t.memSize = s.memSize := by rw [State.memSize, htop, State.memSize]
  exact
    { stepKeepsTheInvariant s t hs.toInv hstep with
      pcBound := hsize ▸ step_pc_le hstep
      spZero := hsp.trans hs.spZero
      events := hsize ▸ step_events_possible hs hstep }

/-! ## Control flow -/

/-- The run state after an instruction depends on the instruction and the run state before it alone. -/
theorem exec_run_eq {i : Instr} {s t : State} (h : exec i s = .next t) :
    t.run = if i = .hlt then .halted else s.run := by
  split
  · next hi => subst hi; cases h; rfl
  · next hi => exact (exec_run h).resolve_right fun hhlt => hi hhlt.1

/-- One step of each of two machines between which only data differ: the fetch is the same, and what
follows it reads no data that control depends on (R111). -/
theorem SameControl.step {s t s' t' : State} (h : SameControl s t) (hs : step s = .next s')
    (ht : step t = .next t') : SameControl s' t' := by
  obtain ⟨hmem, htop, hrun, haddr⟩ := h
  have hfetch : s.wrapPc.fetch = t.wrapPc.fetch := fetch_congr hmem htop haddr
  have hop : s.wrapPc.opcodeAtPc = t.wrapPc.opcodeAtPc := opcodeAtPc_congr hmem haddr
  obtain ⟨-, ⟨c, hc, rfl⟩ | ⟨i, u, hi, hu, rfl⟩⟩ := step_next_cases s s' hs <;>
    obtain ⟨-, ⟨d, hd, rfl⟩ | ⟨j, v, hj, hv, rfl⟩⟩ := step_next_cases t t' ht
  · cases hc.symm.trans (hfetch.trans hd)
    refine ⟨hmem, htop, ?_, fetchAddr_congr htop haddr⟩
    rw [State.raiseFault_run, State.raiseFault_run, hop, s.wrapPc_pc, haddr, t.wrapPc_pc]
  · cases hc.symm.trans (hfetch.trans hj)
  · cases hi.symm.trans (hfetch.trans hd)
  · cases hi.symm.trans (hfetch.trans hj)
    obtain ⟨humem, hutop, -⟩ := exec_keepsMemory hu
    obtain ⟨hvmem, hvtop, -⟩ := exec_keepsMemory hv
    have htop' : u.memTop = v.memTop := hutop.trans (htop.trans hvtop.symm)
    refine ⟨humem.trans (hmem.trans hvmem.symm), htop', ?_, fetchAddr_congr htop' ?_⟩
    · rw [State.advancePc_run, State.advancePc_run, exec_run_eq hu, exec_run_eq hv, s.wrapPc_run, hrun,
        t.wrapPc_run]
    · rw [State.advancePc_pc, State.advancePc_pc, exec_pc hu, exec_pc hv, hop, s.wrapPc_pc, haddr,
        t.wrapPc_pc]

/-- Settles O53, by induction on the number of steps: both machines step, or both have stopped. -/
theorem controlFlowIgnoresData : Obligations.ControlFlowIgnoresData := by
  intro n
  induction n with
  | zero => exact fun s t h => h
  | succ n ih =>
    intro s t h
    have ⟨_, _, hrun, _⟩ := h
    by_cases hs : s.run = .running
    · obtain ⟨s', hs'⟩ := step_completes hs
      obtain ⟨t', ht'⟩ := step_completes (hrun ▸ hs)
      rw [runLoop_succ hs', runLoop_succ ht']
      exact ih s' t' (h.step hs' ht')
    · rw [runLoop_stopped hs, runLoop_stopped (hrun ▸ hs)]
      exact h

/-! ## The step -/

/-- Settles O42: a running machine always steps, and the inversion of a step gives a running state. -/
theorem stepAnswersExactlyWhenRunning : Obligations.StepAnswersExactlyWhenRunning :=
  fun s => ⟨step_completes, fun ⟨t, ht⟩ => (step_next_cases s t ht).1⟩

/-- Settles O44, by the end of the step: an instruction that was run, or a recorded fault. -/
theorem stepMovesThePcByTheWidth : Obligations.StepMovesThePcByTheWidth := by
  intro s t hstep
  refine ⟨fun hend => step_executed_pc hstep ?_, fun c op a hf => ?_⟩
  · obtain hr | hr := hend
    · rw [hr]; nofun
    · rw [hr]; nofun
  · obtain ⟨rfl, -⟩ := step_eq_raiseFault hstep hf
    rfl

/-- Settles O45: a step that ends in a fault recorded it in the wrapped state and did nothing else. -/
theorem faultingStepChangesOnlyTheRunState : Obligations.FaultingStepChangesOnlyTheRunState := by
  intro s t hstep c op a hf
  obtain ⟨rfl, rfl⟩ := step_eq_raiseFault hstep hf
  rfl

/-- Settles O37: the fetch agrees with the decoder, and the width with the number of bytes. -/
theorem stepRunsTheDecodedInstruction : Obligations.StepRunsTheDecodedInstruction := by
  intro s t i rest hrun hdec hexec
  have hlen := hdec
  rw [bytesAtPc_eq] at hlen
  rw [encode_length_of_decode hlen]
  exact step_executes s t i hrun (fetch_of_decode hdec) hexec

/-- Wrapping the pc first does not change the step, which wraps it anyway (R102). -/
theorem step_wrapPc (s : State) : step s.wrapPc = step s := by
  unfold step
  rw [s.wrapPc_run, s.wrapPc.wrapPc_inside s.fetchAddr_lt]

/-- Settles O38: the step is that of the wrapped state, whose pc is 0 or the pc itself. -/
theorem pcBeyondMemoryWrapsToZero : Obligations.PcBeyondMemoryWrapsToZero := by
  refine fun s => ⟨fun h => ⟨s.fetchAddr_beyond h, fun _ => ?_⟩,
    fun h => ⟨s.fetchAddr_inside h, s.wrapPc_inside h⟩⟩
  rw [← step_wrapPc s, State.wrapPc, s.fetchAddr_beyond h]
  rfl

/-- A running machine that fetches an opcode of width 0 records the fault and changes nothing else (R221). -/
theorem step_invalid_opcode {s : State} (hrun : s.run = .running)
    (hw : opcodeWidth s.wrapPc.opcodeAtPc = 0) :
    step s = .next (s.wrapPc.raiseFault .invalidOpcode s.wrapPc.opcodeAtPc) :=
  step_fetch_error s _ hrun (fetch_of_width_zero hw)

/-- Settles O39: the fault of an opcode of width 0, and scenario D of the source as one such fetch. -/
theorem invalidOpcodeFaultsAndChangesNothingElse : Obligations.InvalidOpcodeFaultsAndChangesNothingElse :=
  ⟨fun _ => step_invalid_opcode, _, rfl, rfl, step_invalid_opcode rfl rfl⟩

end Sys2Proof.Machine

/-! PROOFS, family 41_flag_engine. The functions of the flag engine on numbers, the flags of a result as
numbers, what the carry-in does, and that subtraction undoes addition and agrees with a compare. -/

namespace Sys2Proof.Machine

/-! ## The functions of the flag engine -/

/-- Zero as a decided equation of numbers (R122). -/
theorem zero_eq_decide (v : Byte) : zero v = decide (v.toNat = 0) := by
  rw [zero_eq, beq_eq_decide]

/-- One more bit keeps the count of 1 bits even or makes it so, as an exclusive or does (R123). -/
theorem even_add_toNat (n : Nat) (b : Bool) : ((n + b.toNat) % 2 == 0) = ((n % 2 == 0) ^^ b) := by
  cases b with
  | false => simp
  | true => obtain hn | hn := Nat.mod_two_eq_zero_or_one n <;> simp [Nat.add_mod, hn]

/-- Parity is the exclusive or of 1 and the eight bits (R123). -/
theorem parity_eq_xor (v : Byte) : parity v =
    (true ^^ v.getLsbD 7 ^^ v.getLsbD 6 ^^ v.getLsbD 5 ^^ v.getLsbD 4 ^^ v.getLsbD 3 ^^ v.getLsbD 2 ^^
      v.getLsbD 1 ^^ v.getLsbD 0) := by
  have hbit0 : ((v.getLsbD 0).toNat % 2 == 0) = (true ^^ v.getLsbD 0) := by
    simpa using even_add_toNat 0 (v.getLsbD 0)
  simp only [parity, popcount, even_add_toNat, hbit0, Bool.xor_assoc, Bool.xor_comm, Bool.xor_left_comm]

/-- Settles O8, from the laws of the three functions. -/
theorem signZeroParityOfTheByte : Obligations.SignZeroParityOfTheByte :=
  ⟨sign_eq, zero_eq_decide, fun a b c => by rw [zero_eq_decide, addResult_toNat], rfl, parity_eq,
    parity_eq_xor, rfl, rfl, rfl, rfl⟩

/-- The top bit of a number of `i + 1` bits says whether the number reaches `2 ^ i`. -/
theorem testBit_top {n i : Nat} (h : n < 2 ^ (i + 1)) : n.testBit i = decide (2 ^ i ≤ n) := by
  by_cases hle : 2 ^ i ≤ n
  · rw [decide_eq_true hle, Nat.testBit_of_two_pow_le_and_two_pow_add_one_gt hle h]
  · rw [decide_eq_false hle, Nat.testBit_lt_two_pow (Nat.not_le.mp hle)]

/-- Settles O9: each sum has one bit more than its operands, and the carry is that bit. -/
theorem carriesOfAddition : Obligations.CarriesOfAddition := by
  intro a b c
  have hc := Bool.toNat_le c
  have hsum : a.toNat + b.toNat + c.toNat < 2 ^ (8 + 1) := by
    have ha := a.isLt; have hb := b.isLt
    omega
  have hnibbles : a.toNat % 16 + b.toNat % 16 + c.toNat < 2 ^ (4 + 1) := by omega
  exact ⟨rfl, (testBit_top hsum).symm, rfl, (testBit_top hnibbles).symm⟩

/-- Subtraction of 0xFF and a borrow is subtraction of 256, which is none (R125, D5). -/
theorem subResult_255_true (a : Byte) : subResult a 0xFF true = a := by
  apply BitVec.eq_of_toNat_eq
  have ha := a.isLt
  rw [subResult_toNat, show (0xFF : Byte).toNat = 255 from rfl, Bool.toNat_true]
  omega

/-- Settles O10: the formulas are the definitions, and the corner cases are arithmetic on them. -/
theorem borrowsOfSubtraction : Obligations.BorrowsOfSubtraction := by
  intro a b c
  refine ⟨rfl, rfl, ?_, fun hb hc => ?_, fun hb hc => ?_⟩
  · rintro rfl
    rfl
  · subst hc
    have hwrap : lowNibble (b.toNat + true.toNat) = 0 := by
      rw [lowNibble, Bool.toNat_true]; omega
    rw [acSub, hwrap]
    exact decide_eq_false (Nat.not_lt_zero _)
  · subst hb hc
    exact ⟨decide_eq_true (show a.toNat < 256 from a.isLt), subResult_255_true a⟩

/-! ## The flags of a result -/

theorem flagS_flagsOf (r : Byte) (ac cy : Bool) : flagS (flagsOf r ac cy) = decide (128 ≤ r.toNat) := by
  rw [flagsOf, flagS_pack, sign_eq]

theorem flagZ_flagsOf (r : Byte) (ac cy : Bool) : flagZ (flagsOf r ac cy) = decide (r.toNat = 0) := by
  rw [flagsOf, flagZ_pack, zero_eq_decide]

theorem flagP_flagsOf (r : Byte) (ac cy : Bool) : flagP (flagsOf r ac cy) = evenOnes r.toNat := by
  rw [flagsOf, flagP_pack, parity_eq]

/-- The carry as a number is bit 0 of the flag register (R26). -/
theorem flagCY_toNat (f : Byte) : (flagCY f).toNat = f.toNat % 2 := by
  rw [flagCY, BitVec.getLsbD, Nat.toNat_testBit, pow_zero, Nat.div_one]

/-- Flag bytes of one result and auxiliary carry differ in bit 0, the carry, at most. -/
theorem flagsOf_or_one (r : Byte) (ac cy cy' : Bool) :
    flagsOf r ac cy ||| 0x01 = flagsOf r ac cy' ||| 0x01 := by
  have pack_or_one : ∀ s z ac p cy, pack s z ac p cy ||| 0x01 = pack s z ac p true := by decide
  rw [flagsOf, flagsOf, pack_or_one, pack_or_one]

/-- Settles O20, row by row; the flag byte is the one the spec's formula gives. -/
theorem logicalWritesResultAndForcedFlags : Obligations.LogicalWritesResultAndForcedFlags := by
  rintro src s a b rfl rfl
  rw [← BitVec.toNat_and, ← BitVec.toNat_or, ← BitVec.toNat_xor, ← flagsOf_eq, ← flagsOf_eq, ← flagsOf_eq]
  exact ⟨exec_alu .ana src s, exec_alu .ora src s, exec_alu .xra src s⟩

/-! ## Addition, subtraction, comparison -/

theorem exec_add (src : Operand) (s : State) :
    exec (Instr.alu .add src) s = .next (addAcc (src.value s) false s) := exec_alu ..

theorem exec_adc (src : Operand) (s : State) :
    exec (Instr.alu .adc src) s = .next (addAcc (src.value s) (flagCY s.f) s) := exec_alu ..

theorem exec_sub (src : Operand) (s : State) :
    exec (Instr.alu .sub src) s = .next (subAcc (src.value s) false s) := exec_alu ..

theorem exec_sbb (src : Operand) (s : State) :
    exec (Instr.alu .sbb src) s = .next (subAcc (src.value s) (flagCY s.f) s) := exec_alu ..

theorem exec_cmp (src : Operand) (s : State) :
    exec (Instr.alu .cmp src) s = .next (cmpAcc (src.value s) s) := exec_alu ..

/-- A difference without borrow is the machine difference of bytes (R133). -/
theorem subResult_false (a b : Byte) : subResult a b false = a - b := by
  apply BitVec.eq_of_toNat_eq
  have hb := b.isLt
  rw [subResult_toNat, BitVec.toNat_sub, Bool.toNat_false]
  omega

/-- An operand other than A is the same after an addition, which writes A and the flags only. -/
theorem value_addAcc {src : Operand} (h : src ≠ .reg .a) (b : Byte) (c : Bool) (s : State) :
    src.value (addAcc b c s) = src.value s := by
  cases src with
  | reg r => exact Regs.get_set_other _ _ _ _ fun hr => h (congrArg Operand.reg hr)
  | imm n => rfl

/-- Settles O31: `a + b - b = a` on bytes where the operand survives the addition; A itself is doubled,
and then subtracted from itself. -/
theorem addThenSubRestoresTheAccumulator : Obligations.AddThenSubRestoresTheAccumulator := by
  intro src s t u ht hu
  cases (exec_add src s).symm.trans ht
  cases (exec_sub src _).symm.trans hu
  refine ⟨fun hsrc => ?_, ?_, flagS_flagsOf .., flagZ_flagsOf .., flagP_flagsOf ..⟩
  · rw [value_addAcc hsrc]
    show s.regs.set .a (subResult (addResult s.regs.a _ false) _ false) = s.regs.set .a s.regs.a
    rw [addResult_false, subResult_false, BitVec.add_sub_cancel]
  · rintro rfl
    show s.regs.set .a (subResult (addAcc _ false s).regs.a (addAcc _ false s).regs.a false) = _
    rw [subResult_false, BitVec.sub_self]
    rfl

/-- Settles O32: a compare writes the flags of the subtraction, whose byte is 0 only for equal operands. -/
theorem compareSetsTheFlagsOfSubtract : Obligations.CompareSetsTheFlagsOfSubtract := by
  intro src s t u ht hu
  cases (exec_cmp src s).symm.trans ht
  cases (exec_sub src s).symm.trans hu
  refine ⟨cmpAcc_f .., cmpAcc_regs .., ?_, ?_⟩
  · rw [cmpAcc_f, subAcc_f, flagZ_flagsOf, decide_eq_true_iff, subResult_false]
    exact (BitVec.toNat_inj (y := 0)).trans sub_eq_zero
  · rw [cmpAcc_f, subAcc_f, flagCY_flagsOf, cySub, decide_eq_true_iff]
    rfl

/-! ## Increment and decrement -/

/-- What one result `r` gives when INR or DCR writes it to slot `dst`, and when ADI or SUI writes it to
A, which was given the value `v`: the two states differ in the slot written and in the carry. -/
theorem slot_write_agrees_with_acc_write (dst : Reg) (s : State) (v r : Byte) (ac cy : Bool) {t u : State}
    (ht : t = (s.setReg dst r).setF (flagsOf r ac (flagCY s.f)))
    (hu : u = ((s.setReg .a v).setReg .a r).setF (flagsOf r ac cy)) :
    t = { u with regs := s.regs.set dst u.regs.a, f := t.f } ∧
      t.f ||| 0x01 = u.f ||| 0x01 ∧ flagCY t.f = flagCY s.f ∧ (dst = .a → t = { u with f := t.f }) := by
  subst ht hu
  refine ⟨rfl, flagsOf_or_one .., flagCY_flagsOf .., ?_⟩
  rintro rfl
  rfl

/-- Settles O33: INR and DCR write the result and the auxiliary carry of ADI 1 and SUI 1. -/
theorem incrementAgreesWithAddOfOne : Obligations.IncrementAgreesWithAddOfOne := by
  intro dst s t u v w ht hu hv hw
  cases (exec_inr dst s).symm.trans ht
  cases hu
  cases (exec_dcr dst s).symm.trans hv
  cases hw
  constructor
  · refine slot_write_agrees_with_acc_write dst s (s.regs.get dst) _ (acAdd (s.regs.get dst) 1 false) _ ?_ rfl
    rw [← acInc_eq]
    rfl
  · refine slot_write_agrees_with_acc_write dst s (s.regs.get dst) _ (acSub (s.regs.get dst) 1 false) _ ?_ rfl
    rw [← acDec_eq]
    rfl

/-! ## The carry-in -/

/-- The result and flags of an addition as numbers (R122, R124, R126). -/
theorem addAcc_numbers (b : Byte) (c : Bool) (s : State) :
    (addAcc b c s).regs.a.toNat = (s.regs.a.toNat + b.toNat + c.toNat) % 256 ∧
    flagZ (addAcc b c s).f = decide ((s.regs.a.toNat + b.toNat + c.toNat) % 256 = 0) ∧
    flagAC (addAcc b c s).f = decide (15 < s.regs.a.toNat % 16 + b.toNat % 16 + c.toNat) ∧
    flagCY (addAcc b c s).f = decide (255 < s.regs.a.toNat + b.toNat + c.toNat) := by
  rw [addAcc_f, flagZ_flagsOf, flagAC_flagsOf, flagCY_flagsOf, addResult_toNat]
  exact ⟨addResult_toNat .., rfl, rfl, rfl⟩

/-- A difference as a number, `b + c` taken off at once (R130). -/
theorem subResult_toNat_sub_add (a b : Byte) (c : Bool) :
    (subResult a b c).toNat = (a.toNat + 256 - (b.toNat + c.toNat)) % 256 := by
  rw [subResult_toNat, Nat.sub_sub]

/-- The flags of a subtraction as numbers (R122, R125, R127). -/
theorem subAcc_flag_numbers (b : Byte) (c : Bool) (s : State) :
    flagZ (subAcc b c s).f = decide ((s.regs.a.toNat + 256 - (b.toNat + c.toNat)) % 256 = 0) ∧
    flagAC (subAcc b c s).f = decide (s.regs.a.toNat % 16 < (b.toNat + c.toNat) % 16) ∧
    flagCY (subAcc b c s).f = decide (s.regs.a.toNat < b.toNat + c.toNat) := by
  rw [subAcc_f, flagZ_flagsOf, flagAC_flagsOf, flagCY_flagsOf, subResult_toNat_sub_add]
  exact ⟨rfl, rfl, rfl⟩

/-- The result and flags of INR as numbers (R132, R170). -/
theorem incReg_numbers (dst : Reg) (s : State) :
    ((incReg dst s).regs.get dst).toNat = ((s.regs.get dst).toNat + 1) % 256 ∧
    flagZ (incReg dst s).f = decide (((s.regs.get dst).toNat + 1) % 256 = 0) ∧
    flagAC (incReg dst s).f = decide (15 < (s.regs.get dst).toNat % 16 + 1) := by
  have hresult : (addResult (s.regs.get dst) 1 false).toNat = ((s.regs.get dst).toNat + 1) % 256 :=
    addResult_toNat ..
  rw [incReg_regs, Regs.get_set_same, incReg_f, flagZ_flagsOf, flagAC_flagsOf, acInc_eq, hresult]
  exact ⟨rfl, rfl, rfl⟩

/-- The result and flags of DCR as numbers (R132, R171). -/
theorem decReg_numbers (dst : Reg) (s : State) :
    ((decReg dst s).regs.get dst).toNat = ((s.regs.get dst).toNat + 255) % 256 ∧
    flagZ (decReg dst s).f = decide (((s.regs.get dst).toNat + 255) % 256 = 0) ∧
    flagAC (decReg dst s).f = decide ((s.regs.get dst).toNat % 16 < 1) := by
  have hresult : (subResult (s.regs.get dst) 1 false).toNat = ((s.regs.get dst).toNat + 255) % 256 :=
    subResult_toNat ..
  rw [decReg_regs, Regs.get_set_same, decReg_f, flagZ_flagsOf, flagAC_flagsOf, acDec_eq, hresult]
  exact ⟨rfl, rfl, rfl⟩

/-- The accumulator rows but ADC, ACI, SBB and SBI read no flag (R128). -/
theorem exec_alu_setF {op : AluOp} (hadc : op ≠ .adc) (hsbb : op ≠ .sbb) (src : Operand) (s : State) (f : Byte) :
    exec (Instr.alu op src) (s.setF f) = exec (Instr.alu op src) s := by
  have hvalue : src.value (s.setF f) = src.value s := by cases src <;> rfl
  rw [exec_alu, exec_alu, hvalue]
  cases op with
  | adc => exact absurd rfl hadc
  | sbb => exact absurd rfl hsbb
  | add | sub | ana | xra | ora | cmp => rfl

/-- Two states that are equal but for the carry. -/
structure SameButCarry (t u : State) : Prop where
  rest : u = t.setF u.f
  flags : u.f ||| 0x01 = t.f ||| 0x01

theorem SameButCarry.refl (t : State) : SameButCarry t t := ⟨rfl, rfl⟩

/-- Only the event of port 3 reports the flag register (R203). -/
theorem portEvent_setF {p : Byte} (hp : p ≠ 3) (s : State) (f : Byte) : portEvent p (s.setF f) = portEvent p s := by
  unfold portEvent
  rw [if_neg hp, if_neg hp]
  rfl

/-- From two states that are equal but for the carry, an instruction that neither computes from the carry
nor reports it leads to two such states, family by family (R128). -/
theorem exec_sameButCarry {i : Instr} {s t u : State} {f : Byte} (hf : f ||| 0x01 = s.f ||| 0x01)
    (hi : ∀ src, i ≠ Instr.alu .adc src ∧ i ≠ Instr.alu .sbb src) (hout : i ≠ .out 3)
    (ht : exec i s = .next t) (hu : exec i (s.setF f) = .next u) : SameButCarry t u := by
  have aluCase : ∀ op src, i = Instr.alu op src → SameButCarry t u := by
    rintro op src rfl
    have hadc : op ≠ .adc := fun h => (hi src).1 (h ▸ rfl)
    have hsbb : op ≠ .sbb := fun h => (hi src).2 (h ▸ rfl)
    cases ht.symm.trans ((exec_alu_setF hadc hsbb src s f).symm.trans hu)
    exact .refl t
  obtain rfl | rfl | ⟨p, rfl⟩ | ⟨dst, src, hm⟩ | ⟨dst, n, rfl⟩ | ⟨dst, rfl⟩ | ⟨dst, rfl⟩ | ⟨op, src, ha⟩ |
    ⟨op, n, ha⟩ := instr_by_family i
  · cases ht; cases hu; exact ⟨rfl, hf⟩
  · cases ht; cases hu; exact ⟨rfl, hf⟩
  · have hp : p ≠ 3 := fun h => hout (h ▸ rfl)
    cases ht; cases hu
    rw [portEvent_setF hp]
    exact ⟨rfl, hf⟩
  · rw [exec_mov hm] at ht hu; cases ht; cases hu; exact ⟨rfl, hf⟩
  · rw [exec_mvi] at ht hu; cases ht; cases hu; exact ⟨rfl, hf⟩
  · rw [exec_inr] at ht hu; cases ht; cases hu; exact ⟨rfl, flagsOf_or_one ..⟩
  · rw [exec_dcr] at ht hu; cases ht; cases hu; exact ⟨rfl, flagsOf_or_one ..⟩
  · exact aluCase op _ ha
  · exact aluCase op _ ha

/-- Inverting bit 0 of a flag byte changes no other bit. -/
theorem xor_one_or_one : ∀ f : Byte, f ^^^ 0x01 ||| 0x01 = f ||| 0x01 := by decide

/-- Settles O30: the numbers of each operation at its carry-in, the rows that read no flag, and the
states that differ in the carry alone; the event of OUT to port 3 is the one exception. -/
theorem carryInOfEachInstruction : Obligations.CarryInOfEachInstruction := by
  refine ⟨?_, ?_, ?_, fun op src s f hadc hsbb => exec_alu_setF hadc hsbb src s f, ?_⟩
  · rintro op src s t a b c rfl rfl (⟨rfl, rfl⟩ | ⟨rfl, rfl⟩) ht
    · cases (exec_adc src s).symm.trans ht
      rw [← flagCY_toNat]
      exact addAcc_numbers ..
    · cases (exec_add src s).symm.trans ht
      exact addAcc_numbers _ false s
  · rintro op src s t a b c rfl rfl (⟨rfl, rfl⟩ | ⟨rfl | rfl, rfl⟩) ht
    · cases (exec_sbb src s).symm.trans ht
      rw [← flagCY_toNat]
      exact ⟨subResult_toNat_sub_add .., subAcc_flag_numbers ..⟩
    · cases (exec_sub src s).symm.trans ht
      exact ⟨subResult_toNat_sub_add .., subAcc_flag_numbers _ false s⟩
    · cases (exec_cmp src s).symm.trans ht
      exact ⟨rfl, subAcc_flag_numbers _ false s⟩
  · rintro dst s t v rfl
    constructor
    · intro ht
      cases (exec_inr dst s).symm.trans ht
      exact incReg_numbers dst s
    · intro ht
      cases (exec_dcr dst s).symm.trans ht
      exact decReg_numbers dst s
  · intro i s t u hi ht hu
    by_cases hout : i = .out 3
    · subst hout
      cases ht; cases hu
      exact ⟨xor_one_or_one s.f, fun h => absurd rfl h, rfl⟩
    · obtain ⟨hrest, hflags⟩ := exec_sameButCarry (xor_one_or_one s.f) hi hout ht hu
      refine ⟨hflags, fun _ => hrest, ?_⟩
      rw [hrest]
      rfl

end Sys2Proof.Machine

/-! PROOFS, family 42_nop_hlt. The state operation that NOP, HLT and OUT each run, and the frame of each,
read off that operation. -/

namespace Sys2Proof.Machine

/-! ## The operation of NOP, HLT and OUT -/

theorem exec_nop (s : State) : exec .nop s = .next s := rfl

theorem exec_hlt (s : State) : exec .hlt s = .next (s.setRun .halted) := rfl

theorem exec_out (p : Byte) (s : State) :
    exec (.out p) s = .next ((s.portWrite p s.regs.a).emitOpt (portEvent p s)) := rfl

/-- Settles O12: HLT is one write of the run state. -/
theorem nopAndHltComplete : Obligations.NopAndHltComplete :=
  fun s => ⟨exec_nop s, exec_hlt s⟩

/-! ## Frames -/

/-- A port write reads back at its own port and leaves every other port (R54). -/
theorem State.portWrite_read (s : State) (p v : Byte) :
    (s.portWrite p v).ports.read p.toNat = v ∧
      ∀ q, q ≠ p.toNat → (s.portWrite p v).ports.read q = s.ports.read q :=
  ⟨Memory.read_write_same .., fun q hq => Memory.read_write_other _ _ q v hq⟩

/-- Settles O27: HLT writes the run state only, and OUT writes one port and appends the event of that
port, if it has one. -/
theorem nopHltOutFrame : Obligations.NopHltOutFrame := by
  refine ⟨?_, ?_, ?_⟩
  · intro s t h
    cases (exec_nop s).symm.trans h
    rfl
  · intro s t h
    cases (exec_hlt s).symm.trans h
    exact ⟨rfl, rfl, rfl, rfl, rfl, rfl, fun _ => rfl, fun _ => rfl⟩
  · intro p s t h
    cases (exec_out p s).symm.trans h
    obtain ⟨hport, hothers⟩ := s.portWrite_read p s.regs.a
    exact ⟨rfl, rfl, rfl, rfl, rfl, rfl, fun _ => rfl, hport, hothers, portEvent p s, rfl⟩

end Sys2Proof.Machine

/-! PROOFS, family 43_data_transfer. The one pair of slots without a MOV row, and the whole next state of
MOV and MVI, read off the operation that each row runs. -/

namespace Sys2Proof.Machine

/-- The pair M to M is the only one without a MOV row; its byte is HLT (R76, D2). -/
theorem mov_eq_none_iff (dst src : Reg) : Instr.mov dst src = none ↔ dst = .m ∧ src = .m := by
  constructor
  · intro h
    cases dst <;> cases src <;> cases h
    exact ⟨rfl, rfl⟩
  · rintro ⟨rfl, rfl⟩
    rfl

/-- Settles O13: each of the 63 rows runs `moveReg`, which is one write of the destination slot. -/
theorem movCopiesTheSlot : Obligations.MovCopiesTheSlot :=
  ⟨fun _ _ _ h s => exec_mov h s, mov_eq_none_iff⟩

/-- Settles O14: each of the 8 rows is one write of its slot. -/
theorem mviLoadsTheImmediate : Obligations.MviLoadsTheImmediate := exec_mvi

end Sys2Proof.Machine

/-! PROOFS, family 44_add_sub. The whole next state of `addAcc` and `subAcc` on plain numbers, for either
carry-in, and the rows without carry as the case where it is 0. -/

namespace Sys2Proof.Machine

/-- An addition writes the sum modulo 256 to A, and the flag byte of the sum and its carries
(R124, R126, R160 to R163). -/
theorem addAcc_eq (b : Byte) (c : Bool) (s : State) : addAcc b c s =
    (s.setReg .a (BitVec.ofNat 8 (s.regs.a.toNat + b.toNat + c.toNat))).setF
      (BitVec.ofNat 8 (flagNumber ((s.regs.a.toNat + b.toNat + c.toNat) % 256)
        (decide (15 < s.regs.a.toNat % 16 + b.toNat % 16 + c.toNat))
        (decide (255 < s.regs.a.toNat + b.toNat + c.toNat)))) := by
  rw [← addResult_toNat, ← flagsOf_eq]
  rfl

/-- A difference is a natural number cut to a byte: 256 is added first, so nothing is truncated (R130). -/
theorem subResult_eq_ofNat (a b : Byte) (c : Bool) :
    subResult a b c = BitVec.ofNat 8 (a.toNat + 256 - (b.toNat + c.toNat)) := by
  apply BitVec.eq_of_toNat_eq
  rw [subResult_toNat_sub_add, BitVec.toNat_ofNat]

/-- A subtraction writes the difference modulo 256 to A, and the flag byte of the difference and its
borrows (R125, R127, R164 to R167). -/
theorem subAcc_eq (b : Byte) (c : Bool) (s : State) : subAcc b c s =
    (s.setReg .a (BitVec.ofNat 8 (s.regs.a.toNat + 256 - (b.toNat + c.toNat)))).setF
      (BitVec.ofNat 8 (flagNumber ((s.regs.a.toNat + 256 - (b.toNat + c.toNat)) % 256)
        (decide (s.regs.a.toNat % 16 < (b.toNat + c.toNat) % 16))
        (decide (s.regs.a.toNat < b.toNat + c.toNat)))) := by
  rw [← subResult_toNat_sub_add, ← flagsOf_eq, ← subResult_eq_ofNat]
  rfl

/-- Settles O15: every operand form runs the addition with carry-in 0. -/
theorem addWritesSumAndFlags : Obligations.AddWritesSumAndFlags := by
  rintro src s a b rfl rfl
  rw [exec_add, addAcc_eq, Bool.toNat_false]
  rfl

/-- Settles O17: every operand form runs the subtraction with carry-in 0. -/
theorem subWritesDifferenceAndFlags : Obligations.SubWritesDifferenceAndFlags := by
  rintro src s a b rfl rfl
  rw [exec_sub, subAcc_eq, Bool.toNat_false]
  rfl

end Sys2Proof.Machine

/-! PROOFS, family 45_inr_dcr. The one effect that INR and DCR share, and their frame. -/

namespace Sys2Proof.Machine

/-- An INR or DCR row writes its slot and a flag byte of the flag engine whose carry is the old one, and
nothing else (R132, R170, R171). -/
theorem exec_inr_or_dcr_writes {dst : Reg} {i : Instr} (hi : i = Instr.inr dst ∨ i = Instr.dcr dst) (s : State) :
    ∃ r ac, exec i s = .next ((s.setReg dst r).setF (flagsOf r ac (flagCY s.f))) := by
  obtain rfl | rfl := hi
  · exact ⟨_, _, exec_inr dst s⟩
  · exact ⟨_, _, exec_dcr dst s⟩

/-- Settles O26, from the shape of an INR or DCR row's effect. -/
theorem incrementDecrementFrame : Obligations.IncrementDecrementFrame := by
  intro dst i s t hi h
  obtain ⟨r, ac, hw⟩ := exec_inr_or_dcr_writes hi s
  cases hw.symm.trans h
  exact ⟨(setReg_setF_keeps ..).same, fun q hq => Regs.get_set_other _ _ _ _ hq, flagCY_flagsOf ..,
    flagsOf_reserved ..⟩

end Sys2Proof.Machine

/-! PROOFS, family 48_out. What one OUT does to port 0 and to the last decimal value of the stream; they
agree, so every instruction keeps the two equal. -/

namespace Sys2Proof.Machine

/-- The event of an OUT to port 0 carries A; that of any other port carries no decimal value
(R202 to R204). -/
theorem lastDecimal_append_portEvent (events : List Event) (p : Byte) (s : State) :
    lastDecimal (events ++ (portEvent p s).toList) = if p = 0 then s.regs.a else lastDecimal events := by
  rw [lastDecimal, List.foldl_append, ← lastDecimal]
  unfold portEvent
  split_ifs
  · rfl
  · rfl
  · rfl
  · rfl
  · rfl

/-- An OUT to port 0 writes A to it; an OUT to any other port leaves port 0 (R54, R56). -/
theorem portWrite_read_zero (s : State) (p v : Byte) :
    (s.portWrite p v).ports.read 0 = if p = 0 then v else s.ports.read 0 := by
  have hzero : 0 = p.toNat ↔ p = 0 := eq_comm.trans (BitVec.toNat_inj (y := 0))
  rw [portWrite_read, if_congr hzero rfl rfl]

/-- Every instruction keeps port 0 at the last decimal value: OUT moves both in the same way, and no other
instruction writes a port or emits. -/
theorem exec_portZero_eq_lastDecimal {i : Instr} {s t : State} (hs : s.ports.read 0 = lastDecimal s.out)
    (h : exec i s = .next t) : t.ports.read 0 = lastDecimal t.out := by
  obtain ⟨-, rfl⟩ | ⟨p, -, rfl⟩ | ⟨hk, -⟩ := exec_next_cases h
  · exact hs
  · rw [State.emitOpt_ports, State.emitOpt_out, State.portWrite_out, portWrite_read_zero,
      lastDecimal_append_portEvent, hs]
  · rw [hk.ports, hk.out]; exact hs

/-- Settles O47: the wrap, the fault record and the advance touch neither the ports nor the stream, and the
execution keeps the two in agreement. -/
theorem portZeroHoldsTheLastDecimal : Obligations.PortZeroHoldsTheLastDecimal := by
  refine ⟨rfl, fun s t hs hstep => ?_⟩
  obtain ⟨-, ⟨c, -, rfl⟩ | ⟨i, u, -, hu, rfl⟩⟩ := step_next_cases s t hstep
  · exact hs
  · exact exec_portZero_eq_lastDecimal (s := s.wrapPc) (t := u) hs hu

end Sys2Proof.Machine

/-! PROOFS, family 60_exceptions. When construction gives a machine, and which one. -/

namespace Sys2Proof.Machine

/-- With an image, construction gives a machine exactly for a legal capacity (R6), and it differs from
`State.reset` in the capacity and the memory alone (R250, R252). -/
theorem construct_some_eq_ok_iff {memSize : Nat} {image : List Byte} {s : State} :
    State.construct memSize (some image) = .ok s ↔ (1 ≤ memSize ∧ memSize ≤ Config.largestMemSize) ∧
      s = { State.reset with memTop := BitVec.ofNat 16 (memSize - 1), mem := Memory.load memSize image } := by
  unfold State.construct
  split_ifs with hlegal
  · rw [and_iff_right hlegal, Except.ok.injEq, eq_comm]
  · exact ⟨nofun, fun h => absurd h.1 hlegal⟩

/-- A capacity outside 1..65536 is refused, whatever the image (R6, R255, D11). -/
theorem construct_some_of_illegal {memSize : Nat} (image : List Byte)
    (h : ¬ (1 ≤ memSize ∧ memSize ≤ Config.largestMemSize)) :
    State.construct memSize (some image) = .error .memSizeOutOfRange := if_neg h

/-- Settles O58: a constructed machine is `State.reset` but for its capacity and memory, and each error
is one branch of construction. -/
theorem constructionGivesResetOrAnError : Obligations.ConstructionGivesResetOrAnError := by
  refine ⟨rfl, fun memSize image s h => ?_, fun _ => rfl, fun memSize image h => ?_⟩
  · obtain ⟨-, rfl⟩ := construct_some_eq_ok_iff.mp h
    exact ⟨rfl, rfl, rfl, rfl, rfl, fun _ => rfl⟩
  · apply construct_some_of_illegal
    rintro ⟨hlow, hhigh⟩
    change memSize ≤ 65536 at hhigh
    omega

end Sys2Proof.Machine

/-! PROOFS, family 70_reset_and_hazards and the statements left over from the others. What a loaded image
reads back as, that construction starts a reachable run, that control returns to address 0 within one pass
over memory, and the whole effect of the rows with carry-in, of compares, INR, DCR and OUT. -/

namespace Sys2Proof.Machine

/-! ## The loaded image -/

theorem Memory.read_of_free {m : Memory} {a : Nat} (h : ∀ c ∈ m, c.1 ≠ a) : m.read a = Memory.unlisted := by
  induction m with
  | nil => rfl
  | cons c m ih =>
    rw [Memory.read, if_neg (h c List.mem_cons_self)]
    exact ih fun d hd => h d (List.mem_cons_of_mem c hd)

/-- The image's byte `i` stands `i` places after the address it is loaded from; beyond its end memory
reads as zero (R252). -/
theorem Memory.read_loadFrom (a i : Nat) (bytes : List Byte) :
    (Memory.loadFrom a bytes).read (a + i) = bytes.getD i Memory.unlisted := by
  induction bytes generalizing a i with
  | nil => rfl
  | cons v bytes ih =>
    have hrest : ∀ j, (Memory.loadFrom (a + 1) bytes).read (a + (j + 1)) = bytes.getD j Memory.unlisted :=
      fun j => by rw [← ih (a + 1) j, Nat.add_right_comm, Nat.add_assoc]
    have hbelow : (Memory.loadFrom (a + 1) bytes).read a = Memory.unlisted :=
      Memory.read_of_free fun c hc => Nat.ne_of_gt (Memory.loadFrom_ge (a + 1) bytes c hc)
    rw [Memory.loadFrom]
    split
    · next hv =>
      cases i with
      | zero => exact hbelow.trans hv.symm
      | succ j => exact hrest j
    · cases i with
      | zero => exact if_pos rfl
      | succ j =>
        rw [Memory.read, if_neg (by omega)]
        exact hrest j

theorem Memory.read_load {memSize i : Nat} (image : List Byte) (h : i < memSize) :
    (Memory.load memSize image).read i = image.getD i 0x00 := by
  rw [Memory.load, ← Nat.zero_add i, Memory.read_loadFrom, Nat.zero_add, List.getD_eq_getElem?_getD,
    List.getElem?_take_of_lt h, List.getD_eq_getElem?_getD]
  rfl

/-- An image of `n` bytes lists no address `n` or more places after the one it is loaded from. -/
theorem Memory.loadFrom_lt (a : Nat) (bytes : List Byte) :
    ∀ c ∈ Memory.loadFrom a bytes, c.1 < a + bytes.length := by
  induction bytes generalizing a with
  | nil => nofun
  | cons v bytes ih =>
    intro c hc
    have hrest : c ∈ Memory.loadFrom (a + 1) bytes → c.1 < a + (bytes.length + 1) := fun hc => by
      have := ih (a + 1) c hc
      omega
    rw [Memory.loadFrom] at hc
    split at hc
    · exact hrest hc
    · obtain rfl | hc := List.mem_cons.mp hc
      · exact Nat.lt_add_of_pos_right (Nat.succ_pos _)
      · exact hrest hc

/-- A loaded image lies inside memory: what does not fit is dropped (R252). -/
theorem Memory.load_inside (memSize : Nat) (image : List Byte) :
    ∀ c ∈ Memory.load memSize image, c.1 < memSize := by
  intro c hc
  have hlt := Memory.loadFrom_lt 0 _ c hc
  rw [Nat.zero_add] at hlt
  exact hlt.trans_le (List.length_take_le _ _)

/-! ## Construction -/

/-- A constructed machine has the capacity it was asked for (R6, R50). -/
theorem construct_memSize {memSize : Nat} {image : List Byte} {s : State}
    (h : State.construct memSize (some image) = .ok s) : s.memSize = memSize := by
  obtain ⟨⟨hlow, hhigh⟩, rfl⟩ := construct_some_eq_ok_iff.mp h
  change (BitVec.ofNat 16 (memSize - 1)).toNat + 1 = memSize
  change memSize ≤ 65536 at hhigh
  rw [BitVec.toNat_ofNat, Nat.mod_eq_of_lt (by omega), Nat.sub_add_cancel hlow]

/-- The reserved bits of the flag byte at reset (R27, R30). -/
theorem State.reset_reservedBits : State.reset.f &&& 0x2A = 0x02 := by decide

/-- Settles O57: the capacity is legal, and a load reads back as the image and then zeros. -/
theorem imageIsLoadedVerbatim : Obligations.ImageIsLoadedVerbatim := by
  intro memSize image hlow hhigh
  have hs := (construct_some_eq_ok_iff (image := image)).mpr ⟨⟨hlow, hhigh⟩, rfl⟩
  exact ⟨_, hs, construct_memSize hs, fun i hi => Memory.read_load image hi⟩

/-- Settles O50: memory holds a loaded image, and every other field its value at reset. -/
theorem constructedMachinesAreReached : Obligations.ConstructedMachinesAreReached := by
  intro memSize image s h
  cases image with
  | none => cases h
  | some image =>
    have hsize := construct_memSize h
    obtain ⟨-, rfl⟩ := construct_some_eq_ok_iff.mp h
    exact
      { memCanonical := Memory.wf_load memSize image
        memInside := by
          rw [hsize, List.all_eq_true]
          exact fun c hc => decide_eq_true (Memory.load_inside memSize image c hc)
        portsCanonical := rfl
        portsInside := rfl
        reservedBits := State.reset_reservedBits
        faultRecord := nofun
        pcBound := Nat.zero_le _
        spZero := rfl
        events := rfl }

/-- Settles O48: the machine after reset is a constructed one, of the reference capacity and no image. -/
theorem invariantAtReset : Obligations.InvariantAtReset :=
  (constructedMachinesAreReached 64 (some []) State.reset rfl).toInv

/-! ## One pass over memory -/

/-- A run of one step more takes the step last, as well as first. -/
theorem runLoop_succ_eq_step {s t : State} {n : Nat} (h : step (runLoop n s) = .next t) :
    runLoop (n + 1) s = t := by
  rw [runLoop_add, runLoop_succ h]
  rfl

/-- Two stopped states of one run are the same state (R110). -/
theorem runLoop_eq_of_stopped {s : State} {m n : Nat} (hm : (runLoop m s).run ≠ .running)
    (hn : (runLoop n s).run ≠ .running) : runLoop m s = runLoop n s := by
  rw [← runLoop_stopped hm n, ← runLoop_add, Nat.add_comm, runLoop_add, runLoop_stopped hn]

/-- A run that is running now was running before. -/
theorem runLoop_running_of_le {s : State} {m n : Nat} (hmn : m ≤ n) (hn : (runLoop n s).run = .running) :
    (runLoop m s).run = .running := by
  by_contra hm
  rw [← Nat.add_sub_cancel' hmn, runLoop_add, runLoop_stopped hm] at hn
  exact hm hn

/-- Back at address 0 and running, the run does from there what it did from the start: the two states
differ in data only (R262). -/
theorem sameControl_of_return {s : State} {k : Nat} (hrun : s.run = .running) (haddr : s.fetchAddr = 0)
    (hrunk : (runLoop k s).run = .running) (haddrk : (runLoop k s).fetchAddr = 0) (n : Nat) :
    SameControl (runLoop (k + n) s) (runLoop n s) := by
  obtain ⟨hmem, htop, -⟩ := runLoop_keepsMemory k s
  rw [runLoop_add]
  exact controlFlowIgnoresData n _ _ ⟨hmem, htop, hrunk.trans hrun.symm, haddrk.trans haddr.symm⟩

/-- A run that comes back to address 0 still running is running for ever, by strong induction: after `k`
steps or more it is running because `k` steps earlier it was. -/
theorem runLoop_running_of_return {s : State} {k : Nat} (hk : 0 < k) (hrun : s.run = .running)
    (haddr : s.fetchAddr = 0) (hrunk : (runLoop k s).run = .running) (haddrk : (runLoop k s).fetchAddr = 0)
    (n : Nat) : (runLoop n s).run = .running := by
  induction n using Nat.strongRecOn with
  | ind n ih =>
    obtain hle | hge := Nat.le_total n k
    · exact runLoop_running_of_le hle hrunk
    · obtain ⟨m, rfl⟩ := Nat.exists_eq_add_of_le hge
      obtain ⟨-, -, hrunm, -⟩ := sameControl_of_return hrun haddr hrunk haddrk m
      exact hrunm.trans (ih m (Nat.lt_add_of_pos_left hk))

/-- Settles O54: the run never stops, and control repeats with the period `k`. -/
theorem fullPassRepeatsForever : Obligations.FullPassRepeatsForever := by
  intro s k hk hrun haddr hrunk haddrk n
  obtain ⟨-, -, -, hfetch⟩ := sameControl_of_return hrun haddr hrunk haddrk n
  exact ⟨runLoop_running_of_return hk hrun haddr hrunk haddrk n, hfetch⟩

/-- A step that leaves the machine running moves the fetch address up, or back to 0: the instruction lies
inside memory with all its bytes, so it ends at MEM_SIZE at most (R107, R111, R112). -/
theorem step_fetchAddr_zero_or_lt {s t : State} (h : step s = .next t) (hrun : t.run = .running) :
    t.fetchAddr = 0 ∨ s.fetchAddr.toNat < t.fetchAddr.toNat := by
  have hnofault : ∀ c op a, t.run ≠ .fault c op a := by rw [hrun]; nofun
  obtain ⟨i, -, hi, -⟩ := step_executed h hnofault
  obtain ⟨hw, hle⟩ := fetch_ok_width hi s.fetchAddr_lt
  rw [State.wrapPc_pc, State.wrapPc_memSize] at hle
  obtain ⟨hpc, -⟩ := step_executed_pc h hnofault
  by_cases hbeyond : t.memSize ≤ t.pc.toNat
  · exact .inl (t.fetchAddr_beyond hbeyond)
  · rw [t.fetchAddr_inside (Nat.not_le.mp hbeyond)]
    obtain hend | hend := (hle.trans s.memSize_le).eq_or_lt
    · left
      apply BitVec.eq_of_toNat_eq
      rw [hpc, hend]
      rfl
    · right
      rw [hpc, Nat.mod_eq_of_lt hend]
      omega

/-- A running run has been back at address 0, or its fetch address has risen with every step. -/
theorem runLoop_returned_or_risen {s : State} {n : Nat} (hn : (runLoop n s).run = .running) :
    (∃ k, 0 < k ∧ k ≤ n ∧ (runLoop k s).fetchAddr = 0) ∨ n ≤ (runLoop n s).fetchAddr.toNat := by
  induction n with
  | zero => exact .inr (Nat.zero_le _)
  | succ n ih =>
    have hprev := runLoop_running_of_le n.le_succ hn
    obtain ⟨k, hpos, hle, hzero⟩ | hrisen := ih hprev
    · exact .inl ⟨k, hpos, hle.trans n.le_succ, hzero⟩
    · obtain ⟨t, ht⟩ := step_completes hprev
      have hlast := runLoop_succ_eq_step ht
      rw [hlast] at hn ⊢
      obtain hzero | hlt := step_fetchAddr_zero_or_lt ht hn
      · exact .inl ⟨n + 1, n.succ_pos, le_rfl, hlast ▸ hzero⟩
      · exact .inr (hrisen.trans_lt hlt)

/-- A run never changes the capacity (log 1). -/
theorem runLoop_memSize (n : Nat) (s : State) : (runLoop n s).memSize = s.memSize := by
  rw [State.memSize, (runLoop_keepsMemory n s).memTop, State.memSize]

/-- A run from address 0 that is running after MEM_SIZE steps is running for ever: the fetch address stays
below MEM_SIZE, so it cannot have risen MEM_SIZE times (R262). -/
theorem runLoop_running_of_firstPass {s : State} (hrun : s.run = .running) (haddr : s.fetchAddr = 0)
    (hpass : (runLoop s.memSize s).run = .running) (n : Nat) : (runLoop n s).run = .running := by
  obtain ⟨k, hpos, hle, hzero⟩ | hrisen := runLoop_returned_or_risen hpass
  · exact runLoop_running_of_return hpos hrun haddr (runLoop_running_of_le hle hpass) hzero n
  · have hlt := (runLoop s.memSize s).fetchAddr_lt
    rw [runLoop_memSize] at hlt
    exact absurd hlt (Nat.not_lt.mpr hrisen)

/-- Where a run from address 0 stops, it has stopped within the first pass. -/
theorem runLoop_eq_firstPass {s : State} (hrun : s.run = .running) (haddr : s.fetchAddr = 0) {n : Nat}
    (hn : (runLoop n s).run ≠ .running) : runLoop n s = runLoop s.memSize s :=
  runLoop_eq_of_stopped hn fun hpass => hn (runLoop_running_of_firstPass hrun haddr hpass n)

/-- Settles O55: a run that stops is, where it stops, in the state that ends its first pass. -/
theorem firstPassDecidesTermination : Obligations.FirstPassDecidesTermination := by
  intro s hrun haddr
  have hfirst : ∀ n, (runLoop n s).run ≠ .running → runLoop n s = runLoop s.memSize s :=
    fun n => runLoop_eq_firstPass hrun haddr
  refine ⟨⟨?_, fun h => ⟨_, h⟩⟩, ⟨?_, fun h => ⟨_, h⟩⟩, ⟨fun h => h _, ?_⟩⟩
  · rintro ⟨n, hn⟩
    rwa [← hfirst n hn]
  · rintro ⟨n, hn⟩
    rwa [← hfirst n (by rw [hn]; nofun)]
  · intro h n c op a hn
    exact h c op a (by rwa [← hfirst n (by rw [hn]; nofun)])

/-! ## Rows with carry-in, and compares -/

/-- Settles O16: every operand form runs the addition with the old carry as carry-in. -/
theorem adcWritesSumAndFlags : Obligations.AdcWritesSumAndFlags := by
  rintro src s a b c rfl rfl rfl
  rw [exec_adc, addAcc_eq, flagCY_toNat]
  rfl

/-- Settles O18: every operand form runs the subtraction with the old carry as borrow. -/
theorem sbbWritesDifferenceAndFlags : Obligations.SbbWritesDifferenceAndFlags := by
  rintro src s a b c rfl rfl rfl
  rw [exec_sbb, subAcc_eq, flagCY_toNat]
  rfl

/-- A compare is the flag byte of the subtraction without borrow, and nothing else (R190). -/
theorem cmpAcc_eq (b : Byte) (s : State) : cmpAcc b s = s.setF (subAcc b false s).f := rfl

/-- Settles O19: every operand form writes the flag byte of the subtraction. -/
theorem cmpWritesOnlyFlags : Obligations.CmpWritesOnlyFlags := by
  rintro src s a b rfl rfl
  rw [exec_cmp, cmpAcc_eq, subAcc_eq, Bool.toNat_false]
  rfl

/-! ## INR and DCR -/

/-- Settles O21: the increment is an addition of 1, and its auxiliary carry a test of the low nibble. -/
theorem inrIncrementsTheSlot : Obligations.InrIncrementsTheSlot := by
  rintro dst s v rfl
  simp only [exec_inr, incReg, State.getReg_eq, flagsOf_eq, addResult_toNat]
  rfl

/-- Settles O22: the decrement is a subtraction of 1, and its auxiliary carry a test of the low nibble. -/
theorem dcrDecrementsTheSlot : Obligations.DcrDecrementsTheSlot := by
  rintro dst s v rfl
  simp only [exec_dcr, decReg, State.getReg_eq, flagsOf_eq, subResult_eq_ofNat]
  rfl

/-! ## OUT -/

/-- A pair view as a word: the high half times 256 and the low half (R32). -/
theorem pairOf_eq_ofNat (high low : Byte) : pairOf high low = BitVec.ofNat 16 (256 * high.toNat + low.toNat) := by
  rw [← pairOf_toNat, BitVec.ofNat_toNat, BitVec.setWidth_eq]

/-- Settles O23: OUT is one port write and the event of its port, port by port. -/
theorem outStoresAndEmits : Obligations.OutStoresAndEmits := by
  intro p s
  simp only [exec_out, portEvent, ← BitVec.toNat_inj, BitVec.reduceToNat, State.runningFlag, beq_eq_decide, Regs.bc,
    Regs.de, Regs.hl, pairOf_eq_ofNat]
  split_ifs
  · rfl
  · rfl
  · rfl
  · rfl
  · rfl

/-- A fetch gives OUT only from the byte 0xD3, and the port is the byte after it (R70, R77). -/
theorem fetch_out {s : State} {p : Byte} (h : s.fetch = .ok (.out p)) :
    s.opcodeAtPc = 0xD3 ∧ s.mem.read (s.pc.toNat + 1) = p := by
  have henc := opcodeTable_encodesAt s.opcodeAtPc
  obtain ⟨hop, -⟩ | ⟨build, hop, -, -, hp⟩ := fetch_ok_cases s (.out p) h
  · rw [hop] at henc
    have hlength : 2 = 1 := congrArg List.length henc
    cases hlength
  · rw [hop] at henc
    have hbytes := henc (s.mem.read (s.pc.toNat + 1))
    rw [← hp] at hbytes
    obtain ⟨hopcode, hport⟩ := List.cons_eq_cons.mp hbytes
    exact ⟨hopcode.symm, (List.singleton_inj.mp hport).symm⟩

/-- Settles O46: only OUT extends the stream, by the event of its port, and ports beyond 3 have none. -/
theorem stepEmitsOnlyForOut : Obligations.StepEmitsOnlyForOut := by
  intro s t hstep
  obtain ⟨-, ⟨c, -, rfl⟩ | ⟨i, u, hi, hu, rfl⟩⟩ := step_next_cases s t hstep
  · exact .inl rfl
  · obtain ⟨-, rfl⟩ | ⟨p, rfl, rfl⟩ | ⟨hk, -⟩ := exec_next_cases hu
    · exact .inl rfl
    · cases he : portEvent p s.wrapPc with
      | none => exact .inl (List.append_nil _)
      | some e =>
        obtain ⟨hop, hport⟩ := fetch_out hi
        refine .inr ⟨⟨e, rfl⟩, hop, ?_⟩
        change s.mem.read (s.fetchAddr.toNat + 1) = p at hport
        rw [hport]
        by_contra hbeyond
        cases he.symm.trans (portEvent_none p s.wrapPc (Nat.not_le.mp hbeyond))
    · exact .inl hk.out

/-! ## The operand beyond memory, and terminal states -/

/-- A width-2 opcode in the last byte of memory has no operand to fetch (R105, D8). -/
theorem fetch_of_width_two_last {s : State} (hw : opcodeWidth s.opcodeAtPc = 2)
    (hlast : s.pc.toNat + 1 = s.memSize) : s.fetch = .error .operandOutOfRange := by
  cases hf : s.fetch with
  | error c =>
    obtain ⟨-, hzero⟩ | ⟨rfl, -⟩ := fetch_error_cases s c hf
    · cases hzero.symm.trans hw
    · rfl
  | ok i =>
    obtain ⟨-, hone⟩ | ⟨-, -, -, hin, -⟩ := fetch_ok_cases s i hf
    · cases hone.symm.trans hw
    · exact absurd hlast hin.ne

/-- Settles O40: the fetch faults, and the step records the fault in the wrapped state. -/
theorem operandBeyondMemoryFaults : Obligations.OperandBeyondMemoryFaults := by
  intro s hrun hw hlast
  exact step_fetch_error s _ hrun (fetch_of_width_two_last (s := s.wrapPc) hw hlast)

/-- Settles O41: the two terminal arms of a step. -/
theorem terminalStatesDoNotStep : Obligations.TerminalStatesDoNotStep :=
  fun s => ⟨step_halted s, step_faulted s⟩

end Sys2Proof.Machine
